-- ==== Sys2Proof/Word.lean ====
section
/-! DEFINITION. The plain widths of the block (00_scope.md R9): a byte is 8 bits, a Bit is stored as a Bool
(true = 1, false = 0), an operation word is 16 bits. -/

namespace Sys2Proof

/-- A byte (R9). -/
abbrev Byte := BitVec 8

/-- A Bit, `true` for 1 (R9, R125). -/
abbrev Bit := Bool

/-- A 16-bit operation word, address, length or offset. -/
abbrev Word := BitVec 16

end Sys2Proof
end

