-- ==== Sys2Proof/Config.lean ====
section
/-! DEFINITION. What an implementation fixes (the parameters of 00_scope.md R8, as plain data) and the free values
(R10 "draw"): opaque constants, of which nothing can be proved. -/

namespace Sys2Proof

/-- `P_EP0_SIZE`, one of the four legal values of R8. -/
inductive Ep0Size where
  | s8 | s16 | s32 | s64
  deriving DecidableEq, Repr, Inhabited

/-- The endpoint-0 packet size in bytes (R8). -/
def Ep0Size.bytes : Ep0Size → Nat
  | .s8 => 8
  | .s16 => 16
  | .s32 => 32
  | .s64 => 64

/-- The parameters of R8 that are data. `P_DIAG_FORMAT`, a function, is `Config.diagFormat`. -/
structure Params where
  /-- `P_EP0_SIZE` -/
  ep0Size : Ep0Size
  /-- `P_EP_NOTIF`, 1..15 -/
  epNotif : BitVec 4
  /-- `P_EP_BULK`, 1..15, other than `P_EP_NOTIF` -/
  epBulk : BitVec 4
  /-- `P_VREQ_RESET` -/
  vreqReset : Byte
  /-- `P_VREQ_IDENTIFY`, other than `P_VREQ_RESET` -/
  vreqIdentify : Byte
  /-- `P_DESC_DEVICE`, shorter than 65536 bytes -/
  descDevice : List Byte
  /-- `P_DESC_CONFIG` -/
  descConfig : List Byte
  /-- `P_DESC_STRING0` -/
  descString0 : List Byte
  /-- `P_DESC_STRING1` -/
  descString1 : List Byte
  /-- `P_DESC_STRING2` -/
  descString2 : List Byte
  /-- `P_BL_VERSION` -/
  blVersion : Word
  /-- `P_FW_MINOR` -/
  fwMinor : Byte
  /-- `P_FW_MAJOR` -/
  fwMajor : Byte
  /-- `P_ERR_CTR_BITS`, at least 1 -/
  errCtrBits : Nat
  /-- `P_SETTLE`; no rule reads it (R8, D37) -/
  settle : Nat
  /-- `P_UNLOCK_KEY`, 16 bytes -/
  unlockKey : List Byte
  /-- `P_MODE_MASK` -/
  modeMask : Byte
  deriving DecidableEq, Repr, Inhabited

/-- The legal values of R8's table: distinct endpoint numbers in 1..15, distinct vendor codes, descriptors
shorter than 65536 bytes (D45: "every source is shorter than 65536 bytes"), at least one counter bit, a key of
16 bytes. -/
def Params.legal (p : Params) : Bool :=
  p.epNotif != 0#4 && p.epBulk != 0#4 && p.epNotif != p.epBulk && p.vreqReset != p.vreqIdentify &&
  decide (p.descDevice.length < 65536) && decide (p.descConfig.length < 65536) &&
  decide (p.descString0.length < 65536) && decide (p.descString1.length < 65536) &&
  decide (p.descString2.length < 65536) && decide (1 ≤ p.errCtrBits) && p.unlockKey.length == 16

/-- One error class of the diagnostics record: counter and sticky flag (10_state.md R56). The counter is
`P_ERR_CTR_BITS` wide, a parameter, so it is held as a Nat. -/
structure ErrStat where
  count : Nat
  sticky : Bool
  deriving DecidableEq, Repr, Inhabited

/-- The diagnostics record `diag` (R56): six classes and the boot samples, whose widths the spec does not give. -/
structure Diag where
  pid : ErrStat
  crc5 : ErrStat
  crc16 : ErrStat
  busTurnaround : ErrStat
  busTimeout : ErrStat
  dataToggle : ErrStat
  bootVoltage : Nat
  bootCause : Nat
  bootSp : Nat
  deriving DecidableEq, Repr, Inhabited

/-- The parameters of the machine that `State.reset` is: no value of theirs is known. DESIGN CHOICE (log 5), safe. -/
opaque Config.params : Params

/-- `P_DIAG_FORMAT` (R8, D63): the DIAGNOSTICS output as a function of the record. DESIGN CHOICE (log 6), safe. -/
opaque Config.diagFormat : Diag → List Byte

/-- The n-th free byte (R10 "draw"). DESIGN CHOICE (log 7), safe. -/
opaque Config.freeByte : Nat → Byte

/-- The n-th free Boolean (R10 "draw"). DESIGN CHOICE (log 7), safe. -/
opaque Config.freeBool : Nat → Bool

/-- The n-th free 16-bit value (R10 "draw"). DESIGN CHOICE (log 7), safe. -/
opaque Config.freeWord : Nat → Word

/-- The n-th free value whose width the spec does not give (the boot samples of R56). DESIGN CHOICE (log 7), safe. -/
opaque Config.freeNat : Nat → Nat

/-- What a buffer byte reads as that nothing has written since power-on number `epoch` (R75 "every buf byte: draw").
DESIGN CHOICE (log 9), safe. -/
opaque Config.unwrittenByte : (epoch address : Nat) → Byte

end Sys2Proof
end

