-- ==== Sys2Proof/Syntax.lean ====
section
/-! DEFINITION. The operations of the block: one constructor of `Instr` for each row of spec/opcode_table.json, and
the three shapes in which an operation reaches a decoder (30_encoding.md R110). -/

namespace Sys2Proof

/-- The three endpoints the block uses (R37): endpoint 0, `P_EP_NOTIF`, `P_EP_BULK`. -/
inductive Endpoint where
  | ep0 | notif | bulk
  deriving DecidableEq, Repr

/-- The part of a SETUP packet that a row of format SETUP16 leaves free (R111, R112, R117): the direction and
recipient bits, which no rule compares, and the three operand fields. -/
structure SetupFields where
  dirIn : Bit
  recipient : BitVec 5
  wValue : Word
  wIndex : Word
  wLength : Word
  deriving DecidableEq, Repr

/-- The operations. Formats EVT16 and SCHED16 (R119, R121): engine acts, the interrupt step and the watchdog.
Format FWOP16 (R121): firmware operations. Format SETUP16 (R113): control requests with their SETUP fields.
Format CMD8 (R127, R128): commands with their three modifier bits c[7:5] and the fields of their header. -/
inductive Instr where
  -- EVT16
  | evSe0Exit
  | evBusReset
  | evIdle
  | evActivity
  | evError (classes : BitVec 6)
  | evTrnSetup (packet : List Byte)
  | evTrnOut (ep : Endpoint) (half : Bit) (data : List Byte)
  | evTrnIn (ep : Endpoint) (half : Bit)
  -- FWOP16
  | attach
  | acqRx
  | rxRead (index : BitVec 6)
  | rxTake (count : Byte)
  | acqTx
  | txPut (byte : Byte)
  | flush
  | isActive
  | csEnter
  | csExit
  | sleep
  | resetExec
  -- SCHED16
  | irq
  | watchdog
  -- SETUP16
  | getStatus (q : SetupFields)
  | setAddress (q : SetupFields)
  | getDescriptor (q : SetupFields)
  | getConfiguration (q : SetupFields)
  | setConfiguration (q : SetupFields)
  | getInterface (q : SetupFields)
  | setInterface (q : SetupFields)
  | sendEncapsulatedCommand (q : SetupFields)
  | getEncapsulatedResponse (q : SetupFields)
  | setLineCoding (q : SetupFields)
  | getLineCoding (q : SetupFields)
  | setControlLineState (q : SetupFields)
  | vendorReset (q : SetupFields)
  | vendorIdentify (q : SetupFields)
  -- CMD8
  | ping (mods : BitVec 3) (data : List Byte)
  | unlock (mods : BitVec 3) (key : List Byte)
  | setMode (mods : BitVec 3) (mode : Byte)
  | getMode (mods : BitVec 3)
  | read (mods : BitVec 3) (addr : Word)
  | readBurst (mods : BitVec 3) (addr len : Word)
  | write (mods : BitVec 3) (addr : Word) (data : Byte)
  | writeBurst (mods : BitVec 3) (addr len : Word)
  | pollFlashData (mods : BitVec 3) (addr : Word) (polarity : Byte)
  | setFlashWriteSequence (mods : BitVec 3) (n : Byte)
  | flashBurst (mods : BitVec 3) (addr len : Word)
  | diagnostics (mods : BitVec 3)
  | reset (mods : BitVec 3) (magic : Byte)
  | identify (mods : BitVec 3)
  deriving DecidableEq, Repr

/-- One line of a listing (R131): an operation word and the payload bytes beside it (R120). -/
structure Line where
  word : Word
  payload : List Byte
  deriving DecidableEq, Repr

/-- What a decoder is given, with the context that tells the format (R110): a line of the operation port, the bytes
of a SETUP packet, or the bytes of a command (its id byte and its header). -/
inductive Image where
  | line (l : Line)
  | packet (bytes : List Byte)
  | command (bytes : List Byte)
  deriving DecidableEq, Repr

/-- Why a decoder rejects an image. The first seven are the refusals of R123. -/
inductive Reject where
  /-- group 0x3..0xF (R118) -/
  | reservedGroup
  /-- a reserved kind of its group (R119, R121) -/
  | reservedKind
  /-- a non-zero argument field that the tables of R119 and R121 fix to zero -/
  | nonZeroArgument
  /-- an RX_READ index above 63 -/
  | indexTooLarge
  /-- an RX_TAKE count above 64 -/
  | countTooLarge
  /-- an EV_ERROR argument with no class -/
  | noErrorClass
  /-- an EV_TRN_* endpoint other than 0, `P_EP_NOTIF`, `P_EP_BULK` (for EV_TRN_SETUP other than 0) -/
  | badEndpoint
  /-- half 1 of endpoint 0 (R119 "For endpoint 0 the half bit is 0"; log 15) -/
  | badHalf
  /-- a payload that is not the one R131 gives the operation (log 16) -/
  | badPayload
  /-- a SETUP key that no row matches (R221: the handler stalls endpoint 0) -/
  | unmatchedRequest
  /-- a command id that is not in the table of R128 (R346: discarded) -/
  | unknownCommand
  /-- a command image whose header has not the length of R128 -/
  | badHeader
  deriving DecidableEq, Repr

/-- A decoder's answer. -/
inductive Decoded where
  | ok (i : Instr)
  | reject (why : Reject)
  deriving DecidableEq, Repr

end Sys2Proof
end

