-- ==== Sys2Proof/Machine/State.lean ====
section
/-! DEFINITION. The architectural state of 10_state.md as plain data, the reasons a step can stop, and the state after
power-on (R75). -/

namespace Sys2Proof.Machine

/-! ### Device and interrupt state -/

/-- `dev.state` (R23), in the order of its encoding 0..3. -/
inductive DevPhase where
  | detached | attached | powered | default
  deriving DecidableEq, Repr

/-- `dev.clock` (R30). -/
inductive Clock where
  | normal | lowPower
  deriving DecidableEq, Repr

/-- The device group (R23-R30). *active* is not stored (R28). -/
structure Dev where
  state : DevPhase
  suspended : Bool
  configured : Bool
  lineState : Bool
  pendingReset : Bool
  address : BitVec 7
  clock : Clock
  deriving DecidableEq, Repr

/-- A set of the pending sources other than TRN (R35). -/
structure Pending where
  reset : Bool
  error : Bool
  activity : Bool
  idle : Bool
  deriving DecidableEq, Repr

/-- The kind of a completion record (R36). -/
inductive TrnKind where
  | setup | out | inp
  deriving DecidableEq, Repr

/-- A completion record (R36). -/
structure Completion where
  kind : TrnKind
  ep : Endpoint
  half : Bit
  deriving DecidableEq, Repr

/-- The interrupt group (R31-R36). -/
structure Irq where
  mask : BitVec 8
  savedMask : BitVec 8
  enable : Bool
  csStack : List Bool
  pending : Pending
  errBits : BitVec 6
  trn : List Completion
  deriving DecidableEq, Repr

/-! ### Buffer descriptors and buffers -/

/-- The owner of a descriptor (R38); ENGINE is 1 in the image. -/
inductive Owner where
  | firmware | engine
  deriving DecidableEq, Repr

/-- A buffer descriptor (R38). Its data pointer is hard-wired to its own buffer (log 22). -/
structure Bd where
  own : Owner
  dts : Bit
  stall : Bool
  count : BitVec 10
  deriving DecidableEq, Repr

/-- The seven descriptors by name (R37). -/
inductive DescId where
  | ep0Out | ep0In | notifIn | bulkOut (half : Bit) | bulkIn (half : Bit)
  deriving DecidableEq, Repr

/-- The seven descriptors (R37). -/
structure BdTable where
  ep0Out : Bd
  ep0In : Bd
  notifIn : Bd
  bulkOut0 : Bd
  bulkOut1 : Bd
  bulkIn0 : Bd
  bulkIn1 : Bd
  deriving DecidableEq, Repr

/-- The written bytes of BUF (R41, R81), by the model's numbering of them: strictly rising addresses (log 9). -/
abbrev Memory := List Host.Cell

/-- How many byte numbers BUF has: six buffers, 64 numbers each (log 9). -/
abbrev bufSize : Nat := 384

/-- Addresses strictly rise, start at `lo` or above, and name bytes of BUF. -/
def Memory.wfFrom (lo : Nat) : Memory → Bool
  | [] => true
  | (a, _) :: m => decide (lo ≤ a) && decide (a < bufSize) && Memory.wfFrom (a + 1) m

/-- The canonical form of BUF: strictly rising addresses, all of them of BUF. An unlisted byte reads as a free value,
which no listed byte can be compared with, so every list of this form is canonical (log 9). -/
def Memory.wf (m : Memory) : Bool := Memory.wfFrom 0 m

/-! ### Control transfers -/

/-- `ctl.src_kind` (R43). -/
inductive SrcKind where
  | rom | ram | none
  deriving DecidableEq, Repr

/-- `ctl.src` (R43): a descriptor parameter, a RAM record, or nothing. `cfgval` holds the byte evaluated "when the
request is decoded" (R83). -/
inductive Src where
  | none
  | device | config | string0 | string1 | string2
  | lc | status2 | cfgval (v : Byte) | altval | ident
  deriving DecidableEq, Repr

/-- The RAM records an OUT data stage can store into (R43, R48): only `lc`. -/
inductive RamRef where
  | lc
  deriving DecidableEq, Repr

/-- The control-transfer group (R42-R48). -/
structure Ctl where
  dataStage : Bool
  dirIn : Bool
  srcKind : SrcKind
  src : Src
  remaining : Word
  offset : Word
  toggle : Bit
  inDone : Bool
  pendingAddress : Option (BitVec 7)
  dest : Option RamRef
  deriving DecidableEq, Repr

/-- `CTL_IDLE` (R48); it does not list `ctl.src`, which is none here. DESIGN CHOICE (log 12). -/
def Ctl.idle : Ctl :=
  { dataStage := false, dirIn := false, srcKind := .none, src := .none, remaining := 0#16, offset := 0#16,
    toggle := true, inDone := false, pendingAddress := none, dest := none }

/-! ### The pipe -/

/-- A flag for each half: half 0 is even, half 1 is odd (R50, R51). -/
structure Busy where
  even : Bool
  odd : Bool
  deriving DecidableEq, Repr

/-- A receive slice (R11): bytes `off .. off+len-1` of the half are unread. -/
structure RxSlice where
  half : Bit
  off : Nat
  len : Nat
  deriving DecidableEq, Repr

/-- The receive direction (R50). -/
structure Rx where
  busy : Busy
  next : Bit
  eng : Bit
  slice : Option RxSlice
  deriving DecidableEq, Repr

/-- A transmit slice (R11): bytes `0 .. fill-1` are written, `rem` are free. -/
structure TxSlice where
  half : Bit
  fill : Nat
  rem : Nat
  deriving DecidableEq, Repr

/-- The transmit direction (R51). -/
structure Tx where
  busy : Busy
  next : Bit
  eng : Bit
  slice : Option TxSlice
  zlpOwed : Bool
  deriving DecidableEq, Repr

/-! ### Engine side and traces -/

/-- The engine's ping-pong pointers `sie.ppbi` (R64). -/
structure Sie where
  ppbiOut : Bit
  ppbiIn : Bit
  deriving DecidableEq, Repr

/-- A packet the host has received, an entry of `wire_in` (R65). -/
structure Packet where
  ep : Endpoint
  dts : Bit
  data : List Byte
  deriving DecidableEq, Repr

/-- A cartridge bus operation, an entry of `bus_trace` (R60, R97). -/
inductive BusOp where
  | read (addr : Word) (cs ce : Bool)
  | write (addr : Word) (data : Byte) (cs alt : Bool)
  | mode (m : Byte)
  | pin
  deriving DecidableEq, Repr

/-! ### Command protocol -/

/-- `sess.phase` (R58). -/
inductive SessPhase where
  | awaitId | header | exec
  deriving DecidableEq, Repr

/-- A flash toggle-polling loop in progress (R58, R339). -/
structure Poll where
  addr : Word
  pol : Bit
  cs : Bool
  deriving DecidableEq, Repr

/-- The session group (R58). `hdr` holds the 16 header bytes. -/
structure Sess where
  unlocked : Bool
  phase : SessPhase
  cmd : Byte
  hdr : List Byte
  hdrFill : Nat
  hdrNeed : Nat
  addr : Word
  count : Word
  step : Nat
  out : List Byte
  poll : Option Poll
  mode : Byte
  deriving DecidableEq, Repr

/-- A record of the flash write sequence (R59). -/
structure WriteRec where
  addr : Word
  data : Byte
  flags : BitVec 3
  deriving DecidableEq, Repr

/-- The flash write sequence (R59): `recs` holds the 16 records. -/
structure FlashSeq where
  count : Nat
  recs : List WriteRec
  deriving DecidableEq, Repr

/-! ### The main loop and the operation port -/

/-- Who called `rx_byte` (R323): where its byte goes. -/
inductive RxUse where
  | id | header | writeBurst | writeSequence | flashBurst
  deriving DecidableEq, Repr

/-- The place of the main loop's own program (R321, R322): its next firmware call. DEDUCED (log 13). -/
inductive MainPoint where
  /-- `ATTACH()` -/
  | attach
  /-- the head of `forever`: a poll iteration or `IS_ACTIVE()` -/
  | top
  /-- `RESET_EXEC()` -/
  | resetExec
  /-- `SLEEP()` -/
  | sleep
  /-- the first `ACQ_RX()` of `rx_byte` (R323) -/
  | rxAcq (use : RxUse)
  /-- the second `ACQ_RX()` of `rx_byte` -/
  | rxAcqAgain (use : RxUse)
  /-- `RX_READ(0)` of `rx_byte` -/
  | rxRead (use : RxUse)
  /-- `RX_TAKE(1)` of `rx_byte`, with the byte read -/
  | rxTake (use : RxUse) (b : Byte)
  /-- `ACQ_TX()` of `tx_byte(v)` in `emit_step` (R328) -/
  | emitAcq (v : Byte)
  /-- `TX_PUT(v)` of `tx_byte(v)` in `emit_step` -/
  | emitPut (v : Byte)
  /-- `ACQ_TX()` of the READ_BURST stream step (R335) -/
  | burstAcq
  /-- `TX_PUT(v)` of the READ_BURST stream step -/
  | burstPut (v : Byte)
  /-- `FLUSH()` at the end of a poll (R322, R327) -/
  | flush
  deriving DecidableEq, Repr

/-- The main-loop context: the sleep flag (R57) and the place of its program (log 13). -/
structure Main where
  asleep : Bool
  point : MainPoint
  deriving DecidableEq, Repr

/-- One entry of the operation port: a line (R131), or a turn of the main loop's own program. DESIGN CHOICE (log 1). -/
inductive Turn where
  | line (l : Line)
  | mainLoop
  deriving DecidableEq, Repr

/-- What a step returns (R5): nothing, a firmware operation's value, or how the step was turned away: not enabled
(R162, R384; log 2) or held (R297; log 3). -/
inductive Ret where
  | none
  /-- `{valid, len}` of ACQ_RX, `{valid, rem}` of ACQ_TX -/
  | acquired (valid : Bool) (len : Nat)
  /-- the byte of RX_READ -/
  | byte (b : Byte)
  /-- the Bool of FLUSH and IS_ACTIVE -/
  | flag (b : Bool)
  | notEnabled
  | held
  deriving DecidableEq, Repr

/-! ### The state -/

/-- The aggregate `S` of R20, and after it the model's own fields (INVENTORY.md). -/
structure State where
  dev : Dev
  irq : Irq
  bd : BdTable
  /-- the written bytes of BUF -/
  buf : Memory
  ctl : Ctl
  /-- `pipe.armed` (R49) -/
  pipeArmed : Bool
  rx : Rx
  tx : Tx
  /-- the line-coding record, 7 bytes (R54) -/
  lc : List Byte
  /-- `persist.reset_reason` (R55) -/
  resetReason : Byte
  diag : Diag
  main : Main
  sie : Sie
  wireIn : List Packet
  sess : Sess
  flashseq : FlashSeq
  busTrace : List BusOp
  /-- MODEL's own: the parameters of R8 (log 5); no step changes them -/
  cfg : Params
  /-- MODEL's own: the operation port (log 1) -/
  port : List Turn
  /-- MODEL's own: what the cartridge bus will answer, first answer first (log 11) -/
  cart : List Byte
  /-- MODEL's own: how many free values have been drawn (log 7) -/
  draws : Nat
  /-- MODEL's own: which power-on the unwritten bytes of BUF date from (log 9) -/
  epoch : Nat
  /-- MODEL's own: what the last step returned (log 4) -/
  ret : Ret
  deriving DecidableEq, Repr

/-! ### Why a step stops -/

/-- A direction of the bulk pipe, in the information of a fault. -/
inductive Dir where
  | out | inp
  deriving DecidableEq, Repr

/-- The faults of R382, each with the information recorded, and one fault of the model. -/
inductive Fault where
  /-- F_NO_SLICE, raised by RX_READ, RX_TAKE, TX_PUT with no active slice: a caller error. Safe (D30, D31). -/
  | noSlice
  /-- F_SLICE_RANGE, raised by RX_READ, RX_TAKE beyond the slice and TX_PUT on a full slice: a caller error. Safe. -/
  | sliceRange (index len : Nat)
  /-- F_PARITY_DESYNC, raised by a bulk completion of a half other than the engine-observed parity. Safe (D28). -/
  | parityDesync (dir : Dir) (reported expected : Bit)
  /-- F_COMPLETION_UNARMED, raised by a bulk completion of a half that is not busy. Safe (D28). -/
  | completionUnarmed (dir : Dir) (half : Bit)
  /-- F_CS_UNBALANCED, raised by CS_EXIT with no critical section open: a caller error. Safe (D51). -/
  | csUnbalanced
  /-- F_UNEXPECTED_COMPLETION, raised by the TRN handler on a completion no rule expects. Safe. -/
  | unexpectedCompletion (record : Completion)
  /-- F_RECONFIG_IN_FLIGHT, raised by SET_CONFIGURATION while a bulk completion is queued. Safe (D74). -/
  | reconfigInFlight
  /-- The MODEL's own: a byte index at or past the capacity of its buffer (R81 "no rule issues an access that would"),
  raised by RX_READ, TX_PUT and EV_TRN_IN. Safe (log 10). -/
  | noSuchByte (desc : DescId) (index : Nat)
  deriving DecidableEq, Repr

/-- Why a step has no meaning. -/
inductive Refusal where
  /-- An instruction that is still without a meaning; raised by no arm of this model. Safe. -/
  | notModelled (mnemonic : String)
  /-- A line whose word is refused (R5, R123) or whose payload is not the operation's (log 16), raised by the step
  that takes it from the port. Safe. -/
  | badWord (why : Reject)
  deriving DecidableEq, Repr

/-- What a meaning answers. -/
abbrev Result := Host.Outcome State Fault Refusal

/-! ### One update per field -/

def State.setDev (s : State) (v : Dev) : State := { s with dev := v }
def State.setIrq (s : State) (v : Irq) : State := { s with irq := v }
def State.setBd (s : State) (v : BdTable) : State := { s with bd := v }
def State.setBuf (s : State) (v : Memory) : State := { s with buf := v }
def State.setCtl (s : State) (v : Ctl) : State := { s with ctl := v }
def State.setPipeArmed (s : State) (v : Bool) : State := { s with pipeArmed := v }
def State.setRx (s : State) (v : Rx) : State := { s with rx := v }
def State.setTx (s : State) (v : Tx) : State := { s with tx := v }
def State.setLc (s : State) (v : List Byte) : State := { s with lc := v }
def State.setResetReason (s : State) (v : Byte) : State := { s with resetReason := v }
def State.setDiag (s : State) (v : Diag) : State := { s with diag := v }
def State.setMain (s : State) (v : Main) : State := { s with main := v }
def State.setSie (s : State) (v : Sie) : State := { s with sie := v }
def State.setWireIn (s : State) (v : List Packet) : State := { s with wireIn := v }
def State.setSess (s : State) (v : Sess) : State := { s with sess := v }
def State.setFlashseq (s : State) (v : FlashSeq) : State := { s with flashseq := v }
def State.setBusTrace (s : State) (v : List BusOp) : State := { s with busTrace := v }
def State.setPort (s : State) (v : List Turn) : State := { s with port := v }
def State.setCart (s : State) (v : List Byte) : State := { s with cart := v }
def State.setDraws (s : State) (v : Nat) : State := { s with draws := v }
def State.setRet (s : State) (v : Ret) : State := { s with ret := v }

/-! ### Power-on -/

/-- A descriptor that is a draw (R75 "every bd: draw"), from the free values numbered from `n`. -/
def drawnBd (n : Nat) : Bd :=
  { own := if Config.freeBool n then .engine else .firmware, dts := Config.freeBool (n + 1),
    stall := Config.freeBool (n + 2), count := (Config.freeWord n).setWidth 10 }

/-- A record of the write sequence that is a draw (R75), from the free values numbered from `n`. -/
def drawnRec (n : Nat) : WriteRec :=
  { addr := Config.freeWord n, data := Config.freeByte (n + 1), flags := (Config.freeWord (n + 2)).setWidth 3 }

/-- How many free values a power-on uses: 28 for the descriptors, 7 for `lc`, 1 for the persisted byte, 3 for the boot
samples, 48 for the sequence records. -/
abbrev powerOnDraws : Nat := 87

/-- The power-on column of R75 with the parameters `cfg`, drawing the free values numbered from `n`, with an empty port,
no cartridge answers, and nothing returned. -/
def State.powerOn (cfg : Params) (n : Nat) : State :=
  { dev := { state := .detached, suspended := false, configured := false, lineState := false,
             pendingReset := false, address := 0#7, clock := .normal }
    irq := { mask := 0x00#8, savedMask := 0x00#8, enable := false, csStack := [],
             pending := { reset := false, error := false, activity := false, idle := false },
             errBits := 0#6, trn := [] }
    bd := { ep0Out := drawnBd n, ep0In := drawnBd (n + 4), notifIn := drawnBd (n + 8),
            bulkOut0 := drawnBd (n + 12), bulkOut1 := drawnBd (n + 16),
            bulkIn0 := drawnBd (n + 20), bulkIn1 := drawnBd (n + 24) }
    buf := []
    ctl := Ctl.idle
    pipeArmed := false
    rx := { busy := { even := false, odd := false }, next := false, eng := false, slice := none }
    tx := { busy := { even := false, odd := false }, next := false, eng := false, slice := none, zlpOwed := false }
    lc := (List.range 7).map fun i => Config.freeByte (n + 28 + i)
    resetReason := Config.freeByte (n + 35)
    diag := { pid := ⟨0, false⟩, crc5 := ⟨0, false⟩, crc16 := ⟨0, false⟩, busTurnaround := ⟨0, false⟩,
              busTimeout := ⟨0, false⟩, dataToggle := ⟨0, false⟩,
              bootVoltage := Config.freeNat (n + 36), bootCause := Config.freeNat (n + 37),
              bootSp := Config.freeNat (n + 38) }
    main := { asleep := false, point := .attach }
    sie := { ppbiOut := false, ppbiIn := false }
    wireIn := []
    sess := { unlocked := false, phase := .awaitId, cmd := 0#8, hdr := List.replicate 16 0#8, hdrFill := 0,
              hdrNeed := 0, addr := 0#16, count := 0#16, step := 0, out := [], poll := none, mode := 0x00#8 }
    flashseq := { count := 0, recs := (List.range 16).map fun i => drawnRec (n + 39 + 3 * i) }
    busTrace := []
    cfg := cfg
    port := []
    cart := []
    draws := n + powerOnDraws
    epoch := n
    ret := .none }

/-- The machine right after power-on (R75, R421), with unknown parameters (log 5). -/
def State.reset : State := State.powerOn Config.params 0

end Sys2Proof.Machine
end

