-- ==== Sys2Proof/Machine/Flags.lean ====
section
/-! DEFINITION. The status flags and what is computed from them: *active* (R28), the interrupt mask and its sources
(R31, R384), the pending sources (R35, R161), the error classes (R122, R171) and the codes of conditions and faults
(R381, R382). The block has no arithmetic condition codes (R62). -/

namespace Sys2Proof.Machine

/-- `active(S)` (R28). -/
def State.active (s : State) : Bool :=
  s.dev.configured && !s.dev.suspended && s.dev.lineState && !s.dev.pendingReset

/-! ### Interrupt mask and sources -/

/-- `MASK_NORMAL` (R8, R31): RESET, ERROR, TRN, IDLE. -/
def maskNormal : BitVec 8 := 0x1B#8

/-- `MASK_SUSPEND` (R8, R31): ACTIVITY. -/
def maskSuspend : BitVec 8 := 0x04#8

/-- A value written to `irq.mask`: bit 7 is written 0 (R31, log 26). -/
def maskWritten (v : BitVec 8) : BitVec 8 := v &&& 0x7F#8

/-- The five interrupt sources (R384). -/
inductive Source where
  | activity | reset | idle | error | trn
  deriving DecidableEq, Repr

/-- `bit(s)` (R384, R31). -/
def Source.bit : Source → Nat
  | .reset => 0
  | .error => 1
  | .activity => 2
  | .trn => 3
  | .idle => 4

/-- `pending(s)` (R384). -/
def State.isPending (s : State) : Source → Bool
  | .activity => s.irq.pending.activity
  | .reset => s.irq.pending.reset
  | .idle => s.irq.pending.idle
  | .error => s.irq.pending.error
  | .trn => !s.irq.trn.isEmpty

/-- `taken(s) = pending(s) ∧ irq.mask[bit(s)] = 1` (R384). -/
def State.isTaken (s : State) (src : Source) : Bool := s.isPending src && s.irq.mask.getLsbD src.bit

/-! ### Updates of the flags that several rules share -/

def State.setMask (s : State) (v : BitVec 8) : State := s.setIrq { s.irq with mask := maskWritten v }
def State.setEnable (s : State) (v : Bool) : State := s.setIrq { s.irq with enable := v }
def State.setPending (s : State) (v : Pending) : State := s.setIrq { s.irq with pending := v }
def State.setTrn (s : State) (v : List Completion) : State := s.setIrq { s.irq with trn := v }

/-- Every act but EV_ACTIVITY and EV_SE0_EXIT also makes ACTIVITY pending while the device is suspended (R161). -/
def State.noteActivity (s : State) : State :=
  if s.dev.suspended then s.setPending { s.irq.pending with activity := true } else s

/-! ### Error counters (R171) -/

/-- `MAX = 2^P_ERR_CTR_BITS - 1` (R171). -/
def errMax (p : Params) : Nat := 2 ^ p.errCtrBits - 1

/-- One class of the ERROR handler: the sticky flag is set; below MAX the counter counts, at MAX the next value is a
draw in {0, MAX} (R171): `drawMax` chooses. -/
def bumpErr (max : Nat) (raised drawMax : Bool) (e : ErrStat) : ErrStat :=
  if raised then
    { count := if e.count < max then e.count + 1 else if drawMax then max else 0, sticky := true }
  else e

/-- The ERROR handler's work on the record: class k is bit k of `bits` (R122), and uses the free value `n + k`. -/
def bumpDiag (max : Nat) (bits : BitVec 6) (n : Nat) (d : Diag) : Diag :=
  { d with
    pid := bumpErr max (bits.getLsbD 0) (Config.freeBool n) d.pid
    crc5 := bumpErr max (bits.getLsbD 1) (Config.freeBool (n + 1)) d.crc5
    crc16 := bumpErr max (bits.getLsbD 2) (Config.freeBool (n + 2)) d.crc16
    busTurnaround := bumpErr max (bits.getLsbD 3) (Config.freeBool (n + 3)) d.busTurnaround
    busTimeout := bumpErr max (bits.getLsbD 4) (Config.freeBool (n + 4)) d.busTimeout
    dataToggle := bumpErr max (bits.getLsbD 5) (Config.freeBool (n + 5)) d.dataToggle }

/-! ### Codes (R381, R382) -/

/-- The conditions of R381. No state holds them and nothing reads them. -/
inductive Condition where
  | ep0RequestStall
  | usbErrPid | usbErrCrc5 | usbErrCrc16 | usbErrBusTurnaround | usbErrBusTimeout | usbErrDataToggle
  | cmdInvalidId | cmdLocked | cmdBadKey | cmdSeqTooLong
  deriving DecidableEq, Repr

/-- The code column of R381. -/
def Condition.code : Condition → Byte
  | .ep0RequestStall => 0x01#8
  | .usbErrPid => 0x10#8
  | .usbErrCrc5 => 0x11#8
  | .usbErrCrc16 => 0x12#8
  | .usbErrBusTurnaround => 0x13#8
  | .usbErrBusTimeout => 0x14#8
  | .usbErrDataToggle => 0x15#8
  | .cmdInvalidId => 0x20#8
  | .cmdLocked => 0x21#8
  | .cmdBadKey => 0x22#8
  | .cmdSeqTooLong => 0x23#8

/-- The code column of R382; the model's own fault has none. -/
def Fault.code : Fault → Option Byte
  | .noSlice => some 0x81#8
  | .sliceRange _ _ => some 0x82#8
  | .parityDesync _ _ _ => some 0x83#8
  | .completionUnarmed _ _ => some 0x84#8
  | .csUnbalanced => some 0x85#8
  | .unexpectedCompletion _ => some 0x86#8
  | .reconfigInFlight => some 0x87#8
  | .noSuchByte _ _ => none

end Sys2Proof.Machine
end

