-- ==== Sys2Proof/WellFormed.lean ====
section
/-! DEFINITION. Which terms of `Instr` spell an operation (30_encoding.md R119-R123, R128, R131). -/

namespace Sys2Proof

/-- The half of an EV_TRN_* is 0 for endpoint 0 (R119). -/
def halfLegal (ep : Endpoint) (half : Bit) : Bool := !(decide (ep = .ep0) && half)

/-- The operand ranges of R119, R121, R128 and R131. Constructors whose operand types already are the legal ranges
need no check. -/
def Instr.wellFormed : Instr → Bool
  | .evError classes => decide (classes ≠ 0#6)
  | .evTrnSetup packet => packet.length == 8
  | .evTrnOut ep half data => halfLegal ep half && decide (data.length ≤ 64)
  | .evTrnIn ep half => halfLegal ep half
  | .rxTake count => decide (count.toNat ≤ 64)
  | .ping _ data => data.length == 16
  | .unlock _ key => key.length == 16
  | .evSe0Exit | .evBusReset | .evIdle | .evActivity
  | .attach | .acqRx | .rxRead _ | .acqTx | .txPut _ | .flush | .isActive | .csEnter | .csExit | .sleep | .resetExec
  | .irq | .watchdog
  | .getStatus _ | .setAddress _ | .getDescriptor _ | .getConfiguration _ | .setConfiguration _
  | .getInterface _ | .setInterface _ | .sendEncapsulatedCommand _ | .getEncapsulatedResponse _
  | .setLineCoding _ | .getLineCoding _ | .setControlLineState _ | .vendorReset _ | .vendorIdentify _
  | .setMode _ _ | .getMode _ | .read _ _ | .readBurst _ _ _ | .write _ _ _ | .writeBurst _ _ _
  | .pollFlashData _ _ _ | .setFlashWriteSequence _ _ | .flashBurst _ _ _ | .diagnostics _ | .reset _ _
  | .identify _ => true

end Sys2Proof
end

