-- ==== Sys2Proof/Decode.lean ====
section
/-! DEFINITION. The decoders of 30_encoding.md, total on any image and rejecting by name, and the encoder. -/

namespace Sys2Proof

/-! ### Byte order -/

/-- `LE16(b0, b1) = zext_16(b1) << 8 | zext_16(b0)` (R9, R88). -/
def le16 (b0 b1 : Byte) : Word := b1 ++ b0

/-- The low byte of a 16-bit value, first on the wire (R88). -/
def loByte (w : Word) : Byte := w.extractLsb' 0 8

/-- The high byte of a 16-bit value, second on the wire (R88). -/
def hiByte (w : Word) : Byte := w.extractLsb' 8 8

/-! ### The operation word (R118) -/

/-- `w[15:12]`, the group. -/
def wordGroup (w : Word) : BitVec 4 := w.extractLsb' 12 4

/-- `w[11:8]`, the kind. -/
def wordKind (w : Word) : BitVec 4 := w.extractLsb' 8 4

/-- `w[7:0]`, the argument. -/
def wordArg (w : Word) : Byte := w.extractLsb' 0 8

/-- The operation word of a group, a kind and an argument. -/
def mkWord (group kind : BitVec 4) (arg : Byte) : Word := group ++ kind ++ arg

/-- The number of an endpoint (R37, R8). -/
def Params.epNumber (p : Params) : Endpoint → BitVec 4
  | .ep0 => 0#4
  | .notif => p.epNotif
  | .bulk => p.epBulk

/-- The endpoint of a number: 0, `P_EP_NOTIF` or `P_EP_BULK` (R123). -/
def Params.endpoint (p : Params) (n : BitVec 4) : Option Endpoint :=
  if n = 0#4 then some .ep0
  else if n = p.epNotif then some .notif
  else if n = p.epBulk then some .bulk
  else none

/-- An operation with argument 0 and no payload (R119, R121, R131). -/
def decodeBare (arg : Byte) (payload : List Byte) (i : Instr) : Decoded :=
  if arg ≠ 0#8 then .reject .nonZeroArgument
  else if payload ≠ [] then .reject .badPayload
  else .ok i

/-- An operation whose argument is an operand, with no payload (R131). -/
def decodeNoPayload (payload : List Byte) (i : Instr) : Decoded :=
  if payload ≠ [] then .reject .badPayload else .ok i

/-- The endpoint and half of an EV_TRN_OUT or EV_TRN_IN argument: arg[7:4] = endpoint, arg[3:1] = 0, arg[0] = half
(R119). -/
def decodeTrnArg (p : Params) (arg : Byte) (k : Endpoint → Bit → Decoded) : Decoded :=
  match p.endpoint (arg.extractLsb' 4 4) with
  | none => .reject .badEndpoint
  | some ep =>
    if arg.extractLsb' 1 3 ≠ 0#3 then .reject .nonZeroArgument
    else if halfLegal ep (arg.getLsbD 0) then k ep (arg.getLsbD 0)
    else .reject .badHalf

/-- The payload of EV_TRN_OUT: one count byte n (0..64), then n bytes (R131). -/
def decodeCounted (payload : List Byte) (k : List Byte → Decoded) : Decoded :=
  match payload with
  | [] => .reject .badPayload
  | n :: bytes =>
    if n.toNat = bytes.length ∧ bytes.length ≤ 64 then k bytes else .reject .badPayload

/-- Group 0x0, engine events (R119). -/
def decodeEvent (p : Params) (kind : BitVec 4) (arg : Byte) (payload : List Byte) : Decoded :=
  match kind.toNat with
  | 1 => decodeBare arg payload .evSe0Exit
  | 2 => decodeBare arg payload .evBusReset
  | 3 => decodeBare arg payload .evIdle
  | 4 => decodeBare arg payload .evActivity
  | 5 =>
    if arg.extractLsb' 6 2 ≠ 0#2 then .reject .nonZeroArgument
    else if arg.extractLsb' 0 6 = 0#6 then .reject .noErrorClass
    else decodeNoPayload payload (.evError (arg.extractLsb' 0 6))
  | 6 =>
    if arg.extractLsb' 4 4 ≠ 0#4 then .reject .badEndpoint
    else if arg.extractLsb' 0 4 ≠ 0#4 then .reject .nonZeroArgument
    else if payload.length ≠ 8 then .reject .badPayload
    else .ok (.evTrnSetup payload)
  | 7 => decodeTrnArg p arg fun ep half => decodeCounted payload fun data => .ok (.evTrnOut ep half data)
  | 8 => decodeTrnArg p arg fun ep half => decodeNoPayload payload (.evTrnIn ep half)
  | _ => .reject .reservedKind

/-- Group 0x1, firmware operations (R121), with the index and count bounds of R123. -/
def decodeFirmware (kind : BitVec 4) (arg : Byte) (payload : List Byte) : Decoded :=
  match kind.toNat with
  | 0 => decodeBare arg payload .attach
  | 1 => decodeBare arg payload .acqRx
  | 2 =>
    if arg.toNat ≤ 63 then decodeNoPayload payload (.rxRead (arg.extractLsb' 0 6)) else .reject .indexTooLarge
  | 3 => if arg.toNat ≤ 64 then decodeNoPayload payload (.rxTake arg) else .reject .countTooLarge
  | 4 => decodeBare arg payload .acqTx
  | 5 => decodeNoPayload payload (.txPut arg)
  | 6 => decodeBare arg payload .flush
  | 7 => decodeBare arg payload .isActive
  | 8 => decodeBare arg payload .csEnter
  | 9 => decodeBare arg payload .csExit
  | 10 => decodeBare arg payload .sleep
  | 11 => decodeBare arg payload .resetExec
  | _ => .reject .reservedKind

/-- Group 0x2, the scheduler (R121). -/
def decodeSched (kind : BitVec 4) (arg : Byte) (payload : List Byte) : Decoded :=
  match kind.toNat with
  | 0 => decodeBare arg payload .irq
  | 1 => decodeBare arg payload .watchdog
  | _ => .reject .reservedKind

/-- A line of the operation port (R118, R123, R131). -/
def decodeLine (p : Params) (l : Line) : Decoded :=
  match (wordGroup l.word).toNat with
  | 0 => decodeEvent p (wordKind l.word) (wordArg l.word) l.payload
  | 1 => decodeFirmware (wordKind l.word) (wordArg l.word) l.payload
  | 2 => decodeSched (wordKind l.word) (wordArg l.word) l.payload
  | _ => .reject .reservedGroup

/-! ### SETUP packets (R111-R117) -/

/-- The standard requests by bRequest (R113, R202 type 0). -/
def decodeStandard (rq : Byte) (q : SetupFields) : Decoded :=
  match rq.toNat with
  | 0x00 => .ok (.getStatus q)
  | 0x05 => .ok (.setAddress q)
  | 0x06 => .ok (.getDescriptor q)
  | 0x08 => .ok (.getConfiguration q)
  | 0x09 => .ok (.setConfiguration q)
  | 0x0A => .ok (.getInterface q)
  | 0x0B => .ok (.setInterface q)
  | _ => .reject .unmatchedRequest

/-- The CDC class requests by bRequest (R113, R202 type 1). -/
def decodeClass (rq : Byte) (q : SetupFields) : Decoded :=
  match rq.toNat with
  | 0x00 => .ok (.sendEncapsulatedCommand q)
  | 0x01 => .ok (.getEncapsulatedResponse q)
  | 0x20 => .ok (.setLineCoding q)
  | 0x21 => .ok (.getLineCoding q)
  | 0x22 => .ok (.setControlLineState q)
  | _ => .reject .unmatchedRequest

/-- The vendor requests by bRequest (R113, R202 type 2): the reset code is compared first. -/
def decodeVendor (p : Params) (rq : Byte) (q : SetupFields) : Decoded :=
  if rq = p.vreqReset then .ok (.vendorReset q)
  else if rq = p.vreqIdentify then .ok (.vendorIdentify q)
  else .reject .unmatchedRequest

/-- The dispatcher's choice "first by request-type bits … then by request code" (R202); the direction and
recipient bits are kept and not compared (R112). -/
def decodeRequest (p : Params) (bmRequestType rq : Byte) (wValue wIndex wLength : Word) : Decoded :=
  let q : SetupFields :=
    { dirIn := bmRequestType.getLsbD 7, recipient := bmRequestType.extractLsb' 0 5,
      wValue := wValue, wIndex := wIndex, wLength := wLength }
  match (bmRequestType.extractLsb' 5 2).toNat with
  | 0 => decodeStandard rq q
  | 1 => decodeClass rq q
  | 2 => decodeVendor p rq q
  | _ => .reject .unmatchedRequest

/-- A SETUP packet of 8 bytes (R111). -/
def decodeSetup (p : Params) (bytes : List Byte) : Decoded :=
  match bytes with
  | [s0, s1, s2, s3, s4, s5, s6, s7] => decodeRequest p s0 s1 (le16 s2 s3) (le16 s4 s5) (le16 s6 s7)
  | _ => .reject .badPayload

/-! ### Commands (R127, R128) -/

/-- `c[4:0]`, the command id (R127). -/
def commandId (c : Byte) : BitVec 5 := c.extractLsb' 0 5

/-- `c[7:5]`, the modifier flags (R127). -/
def commandMods (c : Byte) : BitVec 3 := c.extractLsb' 5 3

/-- The command byte of modifiers and id (R127). -/
def mkCommand (mods : BitVec 3) (id : BitVec 5) : Byte := mods ++ id

/-- The header length column of R128; `none` for an id that is not in the table. -/
def headerLen (id : BitVec 5) : Option Nat :=
  match id.toNat with
  | 0x01 => some 16
  | 0x02 => some 16
  | 0x03 => some 1
  | 0x04 => some 0
  | 0x05 => some 2
  | 0x06 => some 4
  | 0x07 => some 3
  | 0x08 => some 4
  | 0x09 => some 3
  | 0x0A => some 1
  | 0x0B => some 4
  | 0x1D => some 0
  | 0x1E => some 1
  | 0x1F => some 0
  | _ => none

/-- The lock column of R128. -/
def lockRequired (id : BitVec 5) : Bool :=
  match id.toNat with
  | 0x03 | 0x04 | 0x05 | 0x06 | 0x07 | 0x08 | 0x09 | 0x0A | 0x0B | 0x1E => true
  | _ => false

/-- A header without bytes (R128). -/
def header0 (h : List Byte) (i : Instr) : Decoded :=
  match h with
  | [] => .ok i
  | _ => .reject .badHeader

/-- A header of one byte (R128). -/
def header1 (h : List Byte) (k : Byte → Instr) : Decoded :=
  match h with
  | [h0] => .ok (k h0)
  | _ => .reject .badHeader

/-- A header that is an address (R128). -/
def headerAddr (h : List Byte) (k : Word → Instr) : Decoded :=
  match h with
  | [h0, h1] => .ok (k (le16 h0 h1))
  | _ => .reject .badHeader

/-- A header of an address and a byte (R128). -/
def headerAddrByte (h : List Byte) (k : Word → Byte → Instr) : Decoded :=
  match h with
  | [h0, h1, h2] => .ok (k (le16 h0 h1) h2)
  | _ => .reject .badHeader

/-- A header of an address and a length (R128). -/
def headerAddrLen (h : List Byte) (k : Word → Word → Instr) : Decoded :=
  match h with
  | [h0, h1, h2, h3] => .ok (k (le16 h0 h1) (le16 h2 h3))
  | _ => .reject .badHeader

/-- A header of 16 bytes (R128). -/
def header16 (h : List Byte) (k : List Byte → Instr) : Decoded :=
  if h.length = 16 then .ok (k h) else .reject .badHeader

/-- The layout column of R128 for a header of the table's length. -/
def decodeHeader (id : BitVec 5) (mods : BitVec 3) (h : List Byte) : Decoded :=
  match id.toNat with
  | 0x01 => header16 h (.ping mods)
  | 0x02 => header16 h (.unlock mods)
  | 0x03 => header1 h (.setMode mods)
  | 0x04 => header0 h (.getMode mods)
  | 0x05 => headerAddr h (.read mods)
  | 0x06 => headerAddrLen h (.readBurst mods)
  | 0x07 => headerAddrByte h (.write mods)
  | 0x08 => headerAddrLen h (.writeBurst mods)
  | 0x09 => headerAddrByte h (.pollFlashData mods)
  | 0x0A => header1 h (.setFlashWriteSequence mods)
  | 0x0B => headerAddrLen h (.flashBurst mods)
  | 0x1D => header0 h (.diagnostics mods)
  | 0x1E => header1 h (.reset mods)
  | 0x1F => header0 h (.identify mods)
  | _ => .reject .badHeader

/-- A command image: the id byte, then its header (R127-R129). -/
def decodeCommand (bytes : List Byte) : Decoded :=
  match bytes with
  | [] => .reject .badHeader
  | c :: h =>
    match headerLen (commandId c) with
    | none => .reject .unknownCommand
    | some _ => decodeHeader (commandId c) (commandMods c) h

/-- The decoder: the context tells the format (R110). -/
def decode (p : Params) : Image → Decoded
  | .line l => decodeLine p l
  | .packet bytes => decodeSetup p bytes
  | .command bytes => decodeCommand bytes

/-! ### The encoder, from the same tables -/

/-- A line with no payload. -/
def lineOf (group kind : BitVec 4) (arg : Byte) : Image := .line ⟨mkWord group kind arg, []⟩

/-- The argument of EV_TRN_OUT and EV_TRN_IN: {endpoint, 000, half} (R119). -/
def trnArg (p : Params) (ep : Endpoint) (half : Bit) : Byte :=
  p.epNumber ep ++ 0#3 ++ BitVec.ofBool half

/-- A SETUP packet of type bits, request code and fields (R111, R112). -/
def packetOf (type : BitVec 2) (rq : Byte) (q : SetupFields) : Image :=
  .packet [BitVec.ofBool q.dirIn ++ type ++ q.recipient, rq, loByte q.wValue, hiByte q.wValue,
    loByte q.wIndex, hiByte q.wIndex, loByte q.wLength, hiByte q.wLength]

/-- A command image of modifiers, id and header bytes (R127, R128). -/
def commandOf (mods : BitVec 3) (id : BitVec 5) (header : List Byte) : Image :=
  .command (mkCommand mods id :: header)

/-- The image of an operation (R119, R121, R113, R128, R131). -/
def encode (p : Params) : Instr → Image
  | .evSe0Exit => lineOf 0#4 1#4 0#8
  | .evBusReset => lineOf 0#4 2#4 0#8
  | .evIdle => lineOf 0#4 3#4 0#8
  | .evActivity => lineOf 0#4 4#4 0#8
  | .evError classes => lineOf 0#4 5#4 (0#2 ++ classes)
  | .evTrnSetup packet => .line ⟨mkWord 0#4 6#4 0#8, packet⟩
  | .evTrnOut ep half data => .line ⟨mkWord 0#4 7#4 (trnArg p ep half), BitVec.ofNat 8 data.length :: data⟩
  | .evTrnIn ep half => lineOf 0#4 8#4 (trnArg p ep half)
  | .attach => lineOf 1#4 0#4 0#8
  | .acqRx => lineOf 1#4 1#4 0#8
  | .rxRead index => lineOf 1#4 2#4 (0#2 ++ index)
  | .rxTake count => lineOf 1#4 3#4 count
  | .acqTx => lineOf 1#4 4#4 0#8
  | .txPut byte => lineOf 1#4 5#4 byte
  | .flush => lineOf 1#4 6#4 0#8
  | .isActive => lineOf 1#4 7#4 0#8
  | .csEnter => lineOf 1#4 8#4 0#8
  | .csExit => lineOf 1#4 9#4 0#8
  | .sleep => lineOf 1#4 10#4 0#8
  | .resetExec => lineOf 1#4 11#4 0#8
  | .irq => lineOf 2#4 0#4 0#8
  | .watchdog => lineOf 2#4 1#4 0#8
  | .getStatus q => packetOf 0#2 0x00#8 q
  | .setAddress q => packetOf 0#2 0x05#8 q
  | .getDescriptor q => packetOf 0#2 0x06#8 q
  | .getConfiguration q => packetOf 0#2 0x08#8 q
  | .setConfiguration q => packetOf 0#2 0x09#8 q
  | .getInterface q => packetOf 0#2 0x0A#8 q
  | .setInterface q => packetOf 0#2 0x0B#8 q
  | .sendEncapsulatedCommand q => packetOf 1#2 0x00#8 q
  | .getEncapsulatedResponse q => packetOf 1#2 0x01#8 q
  | .setLineCoding q => packetOf 1#2 0x20#8 q
  | .getLineCoding q => packetOf 1#2 0x21#8 q
  | .setControlLineState q => packetOf 1#2 0x22#8 q
  | .vendorReset q => packetOf 2#2 p.vreqReset q
  | .vendorIdentify q => packetOf 2#2 p.vreqIdentify q
  | .ping mods data => commandOf mods 0x01#5 data
  | .unlock mods key => commandOf mods 0x02#5 key
  | .setMode mods mode => commandOf mods 0x03#5 [mode]
  | .getMode mods => commandOf mods 0x04#5 []
  | .read mods addr => commandOf mods 0x05#5 [loByte addr, hiByte addr]
  | .readBurst mods addr len => commandOf mods 0x06#5 [loByte addr, hiByte addr, loByte len, hiByte len]
  | .write mods addr data => commandOf mods 0x07#5 [loByte addr, hiByte addr, data]
  | .writeBurst mods addr len => commandOf mods 0x08#5 [loByte addr, hiByte addr, loByte len, hiByte len]
  | .pollFlashData mods addr polarity => commandOf mods 0x09#5 [loByte addr, hiByte addr, polarity]
  | .setFlashWriteSequence mods n => commandOf mods 0x0A#5 [n]
  | .flashBurst mods addr len => commandOf mods 0x0B#5 [loByte addr, hiByte addr, loByte len, hiByte len]
  | .diagnostics mods => commandOf mods 0x1D#5 []
  | .reset mods magic => commandOf mods 0x1E#5 [magic]
  | .identify mods => commandOf mods 0x1F#5 []

/-! ### A word of the opcode table -/

/-- A line with an operation word and a payload of zeros of the length R131 gives its kind: 8 bytes for
EV_TRN_SETUP, a count of 0 for EV_TRN_OUT, nothing for the others. -/
def tableLine (w : Word) : Line :=
  ⟨w, match (wordGroup w).toNat, (wordKind w).toNat with
    | 0, 6 => List.replicate 8 0#8
    | 0, 7 => [0#8]
    | _, _ => []⟩

/-- A SETUP packet whose request key is `w` (R117: K[7:0] = bmRequestType, K[15:8] = bRequest) and whose other
fields are zero. -/
def tablePacket (w : Word) : List Byte := loByte w :: hiByte w :: List.replicate 6 0#8

/-- A command whose id byte is `c` and whose header bytes are zero. -/
def tableCommand (c : Byte) : List Byte :=
  c :: List.replicate ((headerLen (commandId c)).getD 0) 0#8

/-- The image that a word of the opcode table stands for. Eight bits are a command byte. Sixteen bits are an
operation word where they spell one, and otherwise a request key: "a decoder tells the format from context" (R110),
and a table word carries none (log 18). -/
def tableImage (p : Params) (nbits w : Nat) : Image :=
  if nbits ≤ 8 then .command (tableCommand (BitVec.ofNat 8 w))
  else
    match decodeLine p (tableLine (BitVec.ofNat 16 w)) with
    | .ok _ => .line (tableLine (BitVec.ofNat 16 w))
    | .reject _ =>
      match decodeSetup p (tablePacket (BitVec.ofNat 16 w)) with
      | .ok _ => .packet (tablePacket (BitVec.ofNat 16 w))
      | .reject _ => .line (tableLine (BitVec.ofNat 16 w))

/-- The operation the decoder reads from a table word. -/
def decodeTableWord (nbits w : Nat) : Option Instr :=
  match decode Config.params (tableImage Config.params nbits w) with
  | .ok i => some i
  | .reject _ => none

end Sys2Proof
end

