-- ==== Sys2Proof/Machine/Operands.lean ====
section
/-! DEFINITION. Operand forms: the fields of a SETUP packet that the requests use, the modifier bits of the commands,
the bytes of the data-stage sources, and the register image of a descriptor (30_encoding.md R112-R116, R124, R128). -/

namespace Sys2Proof.Machine

/-! ### Operands of the control requests (R114, R133) -/

/-- GET_DESCRIPTOR's type, wValue[15:8] (R114). -/
def descType (q : SetupFields) : Byte := hiByte q.wValue

/-- GET_DESCRIPTOR's index, wValue[7:0] (R114). -/
def descIndex (q : SetupFields) : Byte := loByte q.wValue

/-- SET_ADDRESS's address, wValue[6:0] (R209). -/
def addressOperand (q : SetupFields) : BitVec 7 := q.wValue.extractLsb' 0 7

/-- SET_CONFIGURATION's value, wValue[7:0] (R211). -/
def configOperand (q : SetupFields) : Byte := loByte q.wValue

/-- The interface of GET_INTERFACE and SET_INTERFACE, wIndex[7:0] (R212, R213). -/
def interfaceOperand (q : SetupFields) : Byte := loByte q.wIndex

/-- SET_INTERFACE's alternate setting, wValue[7:0] (R213). -/
def altOperand (q : SetupFields) : Byte := loByte q.wValue

/-- SET_CONTROL_LINE_STATE's flag, wValue[0] = 1 (R218). -/
def lineStateOperand (q : SetupFields) : Bool := q.wValue.getLsbD 0

/-- Vendor RESET's magic, wValue[7:0] (R219). -/
def magicOperand (q : SetupFields) : Byte := loByte q.wValue

/-! ### Modifier bits of the commands (R128) -/

/-- Command bit 7, chip-select, is bit 2 of the modifiers c[7:5] (R128). -/
def modCs (mods : BitVec 3) : Bool := mods.getLsbD 2

/-- Command bit 6, force chip-enable or alternate write strobe, is bit 1 of the modifiers c[7:5] (R128). -/
def modAlt (mods : BitVec 3) : Bool := mods.getLsbD 1

/-- The polarity operand h[2][7] of POLL_FLASH_DATA (R128). -/
def polarityOperand (h2 : Byte) : Bit := h2.getLsbD 7

/-! ### Data-stage sources (R82, R83, R115, R116) -/

/-- The IDENTIFY blob (R115). -/
def identBytes (p : Params) : List Byte :=
  [0x99#8, loByte p.blVersion, hiByte p.blVersion, p.fwMinor, p.fwMajor]

/-- `cfgval`, 1 if configured else 0 (R83). -/
def configByte (configured : Bool) : Byte := if configured then 0x01#8 else 0x00#8

/-- The bytes of a data-stage source (R82, R83, R116). -/
def srcBytes (s : State) : Src → List Byte
  | .none => []
  | .device => s.cfg.descDevice
  | .config => s.cfg.descConfig
  | .string0 => s.cfg.descString0
  | .string1 => s.cfg.descString1
  | .string2 => s.cfg.descString2
  | .lc => s.lc
  | .status2 => [0x00#8, 0x00#8]
  | .cfgval v => [v]
  | .altval => [0x00#8]
  | .ident => identBytes s.cfg

/-! ### Descriptors (R37, R40, R124) -/

/-- The capacity of a descriptor's buffer (R40). -/
def capacity (p : Params) : DescId → Nat
  | .ep0Out | .ep0In => p.ep0Size.bytes
  | .notifIn => 0
  | .bulkOut _ | .bulkIn _ => 64

/-- Where the model numbers the first byte of a descriptor's own buffer, its fixed data pointer (R38, R41; log 9, 22).
The interrupt endpoint has no buffer and its number is that of no byte. -/
def DescId.base : DescId → Nat
  | .ep0Out => 0
  | .ep0In => 64
  | .bulkOut false => 128
  | .bulkOut true => 192
  | .bulkIn false => 256
  | .bulkIn true => 320
  | .notifIn => 384

/-- A descriptor by name. -/
def BdTable.get (t : BdTable) : DescId → Bd
  | .ep0Out => t.ep0Out
  | .ep0In => t.ep0In
  | .notifIn => t.notifIn
  | .bulkOut false => t.bulkOut0
  | .bulkOut true => t.bulkOut1
  | .bulkIn false => t.bulkIn0
  | .bulkIn true => t.bulkIn1

/-- A descriptor replaced by name. -/
def BdTable.put (t : BdTable) (d : DescId) (v : Bd) : BdTable :=
  match d with
  | .ep0Out => { t with ep0Out := v }
  | .ep0In => { t with ep0In := v }
  | .notifIn => { t with notifIn := v }
  | .bulkOut false => { t with bulkOut0 := v }
  | .bulkOut true => { t with bulkOut1 := v }
  | .bulkIn false => { t with bulkIn0 := v }
  | .bulkIn true => { t with bulkIn1 := v }

/-- The ownership bit of the image, 1 = ENGINE (R38, R124). -/
def ownBit : Owner → Bit
  | .firmware => false
  | .engine => true

/-- The `STAT` byte {OWN, DTS, 0, 0, 0, STALL, count[9:8]} (R124). -/
def Bd.stat (b : Bd) : Byte :=
  BitVec.ofBool (ownBit b.own) ++ BitVec.ofBool b.dts ++ 0#3 ++ BitVec.ofBool b.stall ++ b.count.extractLsb' 8 2

/-- The `CNT` byte, count[7:0] (R124). -/
def Bd.cnt (b : Bd) : Byte := b.count.extractLsb' 0 8

/-- The descriptor that an image stands for; bits 5:3 of `STAT` are ignored on read (R124, R130). -/
def bdOfImage (stat cnt : Byte) : Bd :=
  { own := if stat.getLsbD 7 then .engine else .firmware, dts := stat.getLsbD 6, stall := stat.getLsbD 2,
    count := stat.extractLsb' 0 2 ++ cnt }

/-- The encoding of `dev.state` (R23, R125). -/
def DevPhase.code : DevPhase → BitVec 2
  | .detached => 0#2
  | .attached => 1#2
  | .powered => 2#2
  | .default => 3#2

/-! ### Halves (R9, R50) -/

/-- The flag of a half. -/
def Busy.get (b : Busy) (half : Bit) : Bool := if half then b.odd else b.even

/-- The flag of a half replaced. -/
def Busy.put (b : Busy) (half : Bit) (v : Bool) : Busy :=
  if half then { b with odd := v } else { b with even := v }

end Sys2Proof.Machine
end

