-- ==== Sys2Proof/Machine/Ops.lean ====
section
/-! DEFINITION. The named operations that the meanings share: free values, the bytes of BUF, the descriptors and their
hand-off (R86), enabling, the entry of the interrupt (R384), the initialisation of a bus reset (R166), the pipe's clear
(R287) and the cartridge bus (R97). -/

namespace Sys2Proof.Machine

/-! ### Enabling (R5, R162, R297, R384) -/

/-- A step that is not enabled has no effect (log 2). -/
def whenEnabled (enabled : Bool) (s : State) (r : Result) : Result :=
  if enabled then r else .next (s.setRet .notEnabled)

/-- A firmware operation is enabled iff `main.asleep = false` (R297); otherwise the main loop is held (R5, log 3). -/
def whenAwake (s : State) (r : Result) : Result :=
  if s.main.asleep then .next (s.setRet .held) else r

/-- A next state that returns `r`. -/
def returning (r : Ret) (s : State) : Result := .next (s.setRet r)

/-! ### Free values (R10 "draw"; log 7) -/

/-- `n` free bytes. -/
def State.freeBytes (s : State) (n : Nat) : List Byte := (List.range n).map fun i => Config.freeByte (s.draws + i)

/-- `n` free values have been used. -/
def State.drew (s : State) (n : Nat) : State := s.setDraws (s.draws + n)

/-! ### Bytes of BUF (R81) -/

/-- The byte listed at an address. -/
def Memory.find : Memory → Nat → Option Byte
  | [], _ => none
  | (k, v) :: m, a => if k = a then some v else Memory.find m a

/-- A byte listed at an address, in the canonical form. -/
def Memory.insert : Memory → Nat → Byte → Memory
  | [], a, b => [(a, b)]
  | (k, v) :: m, a, b =>
    if a < k then (a, b) :: (k, v) :: m
    else if a = k then (a, b) :: m
    else (k, v) :: Memory.insert m a b

/-- `MemRead(BUF, (d, i), 1)`: a byte of a descriptor's buffer; a byte nothing has written since power-on is a free
value, the same one at every read (R75, log 9). -/
def State.readBuf (s : State) (d : DescId) (i : Nat) : Byte :=
  match Memory.find s.buf (d.base + i) with
  | some b => b
  | none => Config.unwrittenByte s.epoch (d.base + i)

/-- `MemRead(BUF, (d, i), n)` (R81). -/
def State.readBufs (s : State) (d : DescId) (i n : Nat) : List Byte :=
  (List.range n).map fun j => s.readBuf d (i + j)

/-- `MemWrite(BUF, (d, i), 1, b)` (R81). -/
def State.writeBuf (s : State) (d : DescId) (i : Nat) (b : Byte) : State :=
  s.setBuf (Memory.insert s.buf (d.base + i) b)

/-- `MemWrite(BUF, (d, i), n, bs)` (R81). -/
def State.writeBufs (s : State) (d : DescId) (i : Nat) : List Byte → State
  | [] => s
  | b :: bs => (s.writeBuf d i b).writeBufs d (i + 1) bs

/-! ### Descriptors (R38, R39, R86, R87) -/

/-- A descriptor of the state. -/
def State.desc (s : State) (d : DescId) : Bd := s.bd.get d

/-- A descriptor replaced. -/
def State.setDesc (s : State) (d : DescId) (v : Bd) : State := s.setBd (s.bd.put d v)

/-- Arming with count, toggle and stall, the ownership write last (R86). -/
def State.armStall (s : State) (d : DescId) (n : Nat) (t : Bit) (stall : Bool) : State :=
  s.setDesc d { own := .engine, dts := t, stall := stall, count := BitVec.ofNat 10 n }

/-- `arm(d, n, t)`: arming with stall false (R86). -/
def State.arm (s : State) (d : DescId) (n : Nat) (t : Bit) : State := s.armStall d n t false

/-- `set_stalled(d)` (R167). -/
def State.setStalled (s : State) (d : DescId) : State := s.armStall d (capacity s.cfg d) false true

/-- The descriptor taken back with its stall cleared: `d.stall <- false ; d.own <- FIRMWARE` (R201, R226). -/
def State.reclaim (s : State) (d : DescId) : State :=
  s.setDesc d { s.desc d with stall := false, own := .firmware }

/-- The engine hands a descriptor back and queues its completion (R87). -/
def State.complete (s : State) (d : DescId) (record : Completion) : State :=
  (s.setDesc d { s.desc d with own := .firmware }).setTrn (s.irq.trn ++ [record])

/-! ### The interrupt's entry (R384-R388)

The interrupt step saves nothing on entry and restores nothing at its end (R387, R388); there is no vector. What its
entry does is choose the source. -/

/-- The first source in the priority order ACTIVITY, RESET, IDLE, ERROR, TRN that is taken (R384, R386). -/
def State.interruptSource (s : State) : Option Source :=
  if s.isTaken .activity then some .activity
  else if s.isTaken .reset then some .reset
  else if s.isTaken .idle then some .idle
  else if s.isTaken .error then some .error
  else if s.isTaken .trn then some .trn
  else none

/-- The interrupt's entry: enabled iff `irq.enable ∧ dev.state ≠ DETACHED ∧ (some s: taken(s))`, it runs the handler of
the chosen source (R384). -/
def takeInterrupt (s : State) (handler : Source → Result) : Result :=
  if s.irq.enable && decide (s.dev.state ≠ .detached) then
    match s.interruptSource with
    | some src => handler src
    | none => returning .notEnabled s
  else returning .notEnabled s

/-- The interrupt's return: the handler ends, nothing is restored (R388). -/
def returnFromInterrupt (s : State) : Result := returning .none s

/-! ### The pipe's set-up, tear-down and clear (R285-R287) -/

/-- `pipe_clear()` (R287). It writes no descriptor. -/
def State.pipeClear (s : State) : State :=
  ((s.setPipeArmed false).setRx
      { busy := { even := false, odd := false }, next := false, eng := false, slice := none }).setTx
    { busy := { even := false, odd := false }, next := false, eng := false, slice := none, zlpOwed := false }

/-- Whether `irq.trn` holds a record of the bulk endpoint (R285, R286). -/
def State.bulkInFlight (s : State) : Bool := s.irq.trn.any fun e => decide (e.ep = .bulk)

/-- The bulk IN descriptor of a half as set-up leaves it: count 0, DTS = half, not stalled, FIRMWARE-owned (R285). -/
def State.idleBulkIn (s : State) (h : Bit) : State :=
  s.setDesc (.bulkIn h) { own := .firmware, dts := h, stall := false, count := 0#10 }

/-- `pipe_setup()` after its test (R285). -/
def State.pipeSetup (s : State) : State :=
  let s := ((s.arm (.bulkOut false) 64 false).idleBulkIn false)
  let s := ((s.arm (.bulkOut true) 64 true).idleBulkIn true)
  let s := s.setRx { busy := { even := true, odd := true }, next := false, eng := false, slice := none }
  let s := s.setTx
    { busy := { even := false, odd := false }, next := false, eng := false, slice := none, zlpOwed := false }
  (s.setSie { ppbiOut := false, ppbiIn := false }).setPipeArmed true

/-- `pipe_teardown()` after its test (R286). -/
def State.pipeTeardown (s : State) : State :=
  let s := (s.setStalled (.bulkOut false)).setStalled (.bulkOut true)
  let s := (s.setStalled (.bulkIn false)).setStalled (.bulkIn true)
  s.pipeClear.setSie { ppbiOut := false, ppbiIn := false }

/-! ### The session's parser fields (R75, R166, R329) -/

/-- The parser fields in their idle values: what `finish()` and `abandon()` write (R329). The
header bytes stay: R329 does not name them. -/
def Sess.idle (x : Sess) : Sess :=
  { x with phase := .awaitId, cmd := 0#8, hdrFill := 0, hdrNeed := 0, addr := 0#16, count := 0#16, step := 0,
           out := [], poll := none }

/-- `finish()` = `abandon()` (R329). -/
def State.finishCommand (s : State) : State := s.setSess s.sess.idle

/-- The parser fields after a bus reset: those of R166, and the header bytes zero. DEDUCED (log 36): the bus-reset column of
R75 makes "the other `sess.*` parser fields" zero, while R166's pseudocode names neither `sess.hdr` as written nor as
kept. -/
def Sess.busReset (x : Sess) : Sess := { x.idle with hdr := List.replicate 16 0#8 }

/-- The end of `usb_reset_init()` (R166, R75). -/
def State.resetParser (s : State) : State := s.setSess s.sess.busReset

/-! ### Bus reset initialisation (R166) -/

/-- Every descriptor in the stalled state, in the order of R166. -/
def State.stallAll (s : State) : State :=
  let s := ((s.setStalled .ep0Out).setStalled .ep0In).setStalled .notifIn
  let s := (s.setStalled (.bulkOut false)).setStalled (.bulkOut true)
  (s.setStalled (.bulkIn false)).setStalled (.bulkIn true)

/-- `usb_reset_init()` (R166): shared by the bus-reset handler and ATTACH. The line coding is a draw. -/
def State.usbResetInit (s : State) : State :=
  let s := s.stallAll
  let s := s.setDev { s.dev with suspended := false, configured := false, lineState := false, address := 0#7,
                                 clock := .normal }
  let s := (s.setMask maskNormal).setCtl Ctl.idle
  let s := s.pipeClear
  let s := (s.setLc (s.freeBytes 7)).drew 7
  s.resetParser

/-! ### Device reset (R298, R347) -/

/-- The power-on state with the persisted byte and the two observation lists kept (R298), and with the model's own
inputs, parameters and free-value counter carried on (log 20). -/
def State.deviceReset (s : State) : State :=
  let t := State.powerOn s.cfg s.draws
  { t with resetReason := s.resetReason, wireIn := s.wireIn, busTrace := s.busTrace, port := s.port, cart := s.cart }

/-! ### Cartridge bus (R97) -/

/-- The next answer of the bus oracle: the first input byte, or a free byte when there is none (R97 "draw byte from the
bus oracle"; log 11). -/
def State.oracleByte (s : State) : Byte :=
  match s.cart with
  | b :: _ => b
  | [] => Config.freeByte s.draws

/-- The oracle has answered once. -/
def State.oracleNext (s : State) : State :=
  match s.cart with
  | _ :: rest => s.setCart rest
  | [] => s.drew 1

/-- An operation appended to `bus_trace`. -/
def State.traceBus (s : State) (op : BusOp) : State := s.setBusTrace (s.busTrace ++ [op])

/-- `BusRead(addr, cs, ce)` (R97): the value read and the state after. -/
def State.busRead (s : State) (addr : Word) (cs ce : Bool) : Byte × State :=
  (s.oracleByte, (s.traceBus (.read addr cs ce)).oracleNext)

/-- `BusWrite(addr, data, cs, alt)` (R97). -/
def State.busWrite (s : State) (addr : Word) (data : Byte) (cs alt : Bool) : State :=
  s.traceBus (.write addr data cs alt)

/-- `BusMode(m)` (R97). -/
def State.busMode (s : State) (m : Byte) : State := s.traceBus (.mode m)

/-- `PinRead()` (R97): the live level, returned as 0x00 or 0x01 (D69), and the state after. -/
def State.pinRead (s : State) : Byte × State :=
  (if s.oracleByte.getLsbD 0 then 0x01#8 else 0x00#8, (s.traceBus .pin).oracleNext)

end Sys2Proof.Machine
end

