-- ==== Sys2Proof/Machine/Control.lean ====
section
/-! DEFINITION. Control transfers on endpoint 0 (41_control_transfer.md R200-R229): the stages, and one meaning for each
request of format SETUP16. The meaning of a request is the whole SETUP step that dispatches it (R201): the control state
is reset, `bd[0][IN]` reclaimed, the request answered and its first stage started. -/

namespace Sys2Proof.Machine

/-! ### Stages -/

/-- What a request answers: `STALL`, `NODATA`, `IN(kind, src, len)` or `OUT(dest)` (R201). The length of an IN source is
the length of its bytes. -/
inductive Answer where
  | stall
  | noData
  | dataIn (kind : SrcKind) (src : Src)
  | dataOut (dest : Option RamRef)
  deriving DecidableEq, Repr

/-- `stall_ep0()` (R204). -/
def State.stallEp0 (s : State) : State :=
  ((s.armStall .ep0In 0 false true).armStall .ep0Out s.cfg.ep0Size.bytes false true).setCtl Ctl.idle

/-- `status_in()` (R205): a zero-length IN packet with DATA1, and `bd[0][OUT]` ready for the next SETUP. -/
def State.statusIn (s : State) : State :=
  (s.arm .ep0In 0 true).arm .ep0Out s.cfg.ep0Size.bytes false

/-- The bytes of the next IN packet: from `ctl.offset`, at most `min(ctl.remaining, P_EP0_SIZE)` (R224). -/
def State.inChunk (s : State) : List Byte :=
  ((srcBytes s s.ctl.src).drop s.ctl.offset.toNat).take (min s.ctl.remaining.toNat s.cfg.ep0Size.bytes)

/-- `send_in_chunk()` (R224). -/
def State.sendInChunk (s : State) : State :=
  let n := min s.ctl.remaining.toNat s.cfg.ep0Size.bytes
  let c := s.ctl
  let s := s.writeBufs .ep0In 0 s.inChunk
  let s := s.arm .ep0In n c.toggle
  s.setCtl { c with offset := c.offset + BitVec.ofNat 16 n, remaining := c.remaining - BitVec.ofNat 16 n,
                    toggle := !c.toggle,
                    inDone := c.inDone || decide (n < s.cfg.ep0Size.bytes) ||
                      decide (c.remaining - BitVec.ofNat 16 n = 0#16) }

/-- `start_in(kind, src, srclen, wLength)` (R203), clipped to `min(srclen, wLength)` (R228). -/
def State.startIn (s : State) (kind : SrcKind) (src : Src) (wLength : Word) : State :=
  let s := s.setCtl { s.ctl with dataStage := true, dirIn := true, srcKind := kind, src := src,
                                 remaining := BitVec.ofNat 16 (min (srcBytes s src).length wLength.toNat),
                                 offset := 0#16, toggle := true, inDone := false }
  s.sendInChunk.arm .ep0Out s.cfg.ep0Size.bytes true

/-- The source field of an OUT data stage: R43 gives `lc` for RAM and nothing for NONE, where R206's pseudocode writes only
the kind. DEDUCED (log 12). -/
def outSrc (dest : Option RamRef) : Src := if dest = some .lc then .lc else .none

/-- `start_out(dest, wLength)` (R206, R43). -/
def State.startOut (s : State) (dest : Option RamRef) (wLength : Word) : State :=
  let s := s.setCtl { s.ctl with dataStage := true, dirIn := false, dest := dest,
                                 srcKind := if dest = some .lc then .ram else .none,
                                 src := outSrc dest,
                                 remaining := wLength, offset := 0#16, toggle := true }
  s.arm .ep0Out s.cfg.ep0Size.bytes true

/-- The start of the SETUP step (R201): `ctl <- CTL_IDLE` and `bd[0][IN]` reclaimed. -/
def State.beginSetup (s : State) : State := (s.setCtl Ctl.idle).reclaim .ep0In

/-- The end of the SETUP step (R201): the stage the answer asks for. -/
def State.startStage (s : State) (a : Answer) (wLength : Word) : State :=
  match a with
  | .stall => s.stallEp0
  | .noData => s.statusIn
  | .dataIn kind src => s.startIn kind src wLength
  | .dataOut dest => if wLength = 0#16 then s.statusIn else s.startOut dest wLength

/-- A request that changes nothing but the control transfer itself. -/
def answerSetup (a : Answer) (q : SetupFields) (s : State) : Result :=
  returnFromInterrupt (s.beginSetup.startStage a q.wLength)

/-- A request with a side effect `f` on the state after the start of the SETUP step; it happens only where the request
does not stall (41_control_transfer.md, before R200). -/
def answerSetupWith (f : State → State) (a : Answer) (q : SetupFields) (s : State) : Result :=
  returnFromInterrupt ((f s.beginSetup).startStage a q.wLength)

/-- An unmatched request stalls endpoint 0 and has no side effect (R221). -/
def stallSetup (s : State) : Result := returnFromInterrupt s.beginSetup.stallEp0

/-! ### Standard requests -/

/-- GET_STATUS (R207): two zero bytes, any recipient. -/
def execGetStatus (q : SetupFields) (s : State) : Result := answerSetup (.dataIn .ram .status2) q s

/-- The answer of GET_DESCRIPTOR (R208). -/
def descriptorAnswer (q : SetupFields) : Answer :=
  match (descType q).toNat, (descIndex q).toNat with
  | 1, 0 => .dataIn .rom .device
  | 2, 0 => .dataIn .rom .config
  | 3, 0 => .dataIn .rom .string0
  | 3, 1 => .dataIn .rom .string1
  | 3, 2 => .dataIn .rom .string2
  | _, _ => .stall

/-- GET_DESCRIPTOR (R208). -/
def execGetDescriptor (q : SetupFields) (s : State) : Result := answerSetup (descriptorAnswer q) q s

/-- SET_ADDRESS (R209): the address is deferred, `dev.address` does not change in this step. -/
def execSetAddress (q : SetupFields) (s : State) : Result :=
  answerSetupWith (fun t => t.setCtl { t.ctl with pendingAddress := some (addressOperand q) }) .noData q s

/-- GET_CONFIGURATION (R210): the byte is evaluated when the request is decoded (R83). -/
def execGetConfiguration (q : SetupFields) (s : State) : Result :=
  answerSetup (.dataIn .ram (.cfgval (configByte s.dev.configured))) q s

/-- SET_CONFIGURATION (R211): 1 sets the pipe up, 0 tears it down, other values stall; a bulk completion in flight is a
fault (R285, R286). -/
def execSetConfiguration (q : SetupFields) (s : State) : Result :=
  match (configOperand q).toNat with
  | 1 =>
    if s.bulkInFlight then .fault .reconfigInFlight
    else answerSetupWith (fun t => (t.setDev { t.dev with configured := true }).pipeSetup) .noData q s
  | 0 =>
    if s.bulkInFlight then .fault .reconfigInFlight
    else answerSetupWith (fun t => (t.setDev { t.dev with configured := false }).pipeTeardown) .noData q s
  | _ => answerSetup .stall q s

/-- The answer of GET_INTERFACE (R212). -/
def getInterfaceAnswer (q : SetupFields) : Answer :=
  if (interfaceOperand q).toNat ≤ 1 then .dataIn .ram .altval else .stall

/-- GET_INTERFACE (R212). -/
def execGetInterface (q : SetupFields) (s : State) : Result := answerSetup (getInterfaceAnswer q) q s

/-- The answer of SET_INTERFACE (R213). -/
def setInterfaceAnswer (q : SetupFields) : Answer :=
  if (interfaceOperand q).toNat ≤ 1 ∧ altOperand q = 0#8 then .noData else .stall

/-- SET_INTERFACE (R213): no state changes. -/
def execSetInterface (q : SetupFields) (s : State) : Result := answerSetup (setInterfaceAnswer q) q s

/-! ### CDC class requests: "if not dev.configured: return STALL" (R202, R221) -/

/-- A class request's answer. -/
def classAnswer (s : State) (a : Answer) : Answer := if s.dev.configured then a else .stall

/-- SEND_ENCAPSULATED_COMMAND (R214): the data are received and discarded. -/
def execSendEncapsulatedCommand (q : SetupFields) (s : State) : Result :=
  answerSetup (classAnswer s (.dataOut none)) q s

/-- GET_ENCAPSULATED_RESPONSE (R215): one zero-length data packet. -/
def execGetEncapsulatedResponse (q : SetupFields) (s : State) : Result :=
  answerSetup (classAnswer s (.dataIn .none .none)) q s

/-- SET_LINE_CODING (R216): the bytes land in `lc` (R226). -/
def execSetLineCoding (q : SetupFields) (s : State) : Result :=
  answerSetup (classAnswer s (.dataOut (some .lc))) q s

/-- GET_LINE_CODING (R217). -/
def execGetLineCoding (q : SetupFields) (s : State) : Result :=
  answerSetup (classAnswer s (.dataIn .ram .lc)) q s

/-- SET_CONTROL_LINE_STATE (R218): `dev.line_state <- (wValue[0] = 1)`. -/
def execSetControlLineState (q : SetupFields) (s : State) : Result :=
  if s.dev.configured then
    answerSetupWith (fun t => t.setDev { t.dev with lineState := lineStateOperand q }) .noData q s
  else answerSetup .stall q s

/-! ### Vendor requests -/

/-- The staging of a device reset: the persisted byte is written, then `dev.pending_reset` (R219, R343, R424). -/
def State.stageReset (s : State) (magic : Byte) : State :=
  let s := s.setResetReason magic
  s.setDev { s.dev with pendingReset := true }

/-- Vendor RESET (R219): staged, not executed. -/
def execVendorReset (q : SetupFields) (s : State) : Result :=
  answerSetupWith (fun t => t.stageReset (magicOperand q)) .noData q s

/-- Vendor IDENTIFY (R220). -/
def execVendorIdentify (q : SetupFields) (s : State) : Result := answerSetup (.dataIn .ram .ident) q s

/-! ### Endpoint-0 completions -/

/-- `apply_address()` (R227). -/
def State.applyAddress (s : State) : State :=
  match s.ctl.pendingAddress with
  | some a => (s.setDev { s.dev with address := a }).setCtl { s.ctl with pendingAddress := none }
  | none => s

/-- `ep0_in_complete()` (R225). -/
def ep0InComplete (s : State) : Result :=
  if s.ctl.dataStage && s.ctl.dirIn then
    if s.ctl.inDone then returnFromInterrupt s else returnFromInterrupt s.sendInChunk
  else if s.ctl.dataStage then .fault (.unexpectedCompletion { kind := .inp, ep := .ep0, half := false })
  else returnFromInterrupt s.applyAddress

/-- Bytes stored into the line-coding record from position `at`; bytes past `lc[6]` are discarded (R226). -/
def storeLc (lc : List Byte) (at_ : Nat) : List Byte → List Byte
  | [] => lc
  | b :: bs => storeLc (if at_ < 7 then lc.set at_ b else lc) (at_ + 1) bs

/-- What an OUT data packet of `k` accepted bytes leaves in `lc` (R226): only the first 7 positions exist. -/
def State.storeOut (s : State) (k : Nat) : State :=
  if s.ctl.dest = some .lc then s.setLc (storeLc s.lc s.ctl.offset.toNat (s.readBufs .ep0Out 0 (min k 7))) else s

/-- `ep0_out_complete()` (R226). -/
def ep0OutComplete (s : State) : Result :=
  if s.ctl.dataStage && !s.ctl.dirIn then
    let n := (s.desc .ep0Out).count.toNat
    let k := min n s.ctl.remaining.toNat
    let s := s.storeOut k
    let s := s.setCtl { s.ctl with offset := s.ctl.offset + BitVec.ofNat 16 k,
                                   remaining := s.ctl.remaining - BitVec.ofNat 16 k, toggle := !s.ctl.toggle }
    if n < s.cfg.ep0Size.bytes ∨ s.ctl.remaining = 0#16 then
      returnFromInterrupt (s.setCtl { s.ctl with dataStage := false }).statusIn
    else returnFromInterrupt (s.arm .ep0Out s.cfg.ep0Size.bytes s.ctl.toggle)
  else
    returnFromInterrupt (((s.setCtl Ctl.idle).reclaim .ep0In).arm .ep0Out s.cfg.ep0Size.bytes false)

end Sys2Proof.Machine
end

