-- ==== Sys2Proof/Machine/Command.lean ====
section
/-! DEFINITION. The command protocol (43_command_protocol.md, collateral): the start of each command of format CMD8
(R324, R326, R330-R344), its stream step (R335, R337, R340, R341) and the flash toggle poll (R339).

The meaning of a command is what the dispatcher does once the command's header is complete: at a command boundary
(AWAIT_ID) the lock is tested first (R324), in HEADER it has been; while a command runs (EXEC) no command byte is read
and the step is not enabled (log 19). What a stream or a poll does after the start is done by the later main-loop steps
through the definitions of this file (MainLoop.lean). -/

namespace Sys2Proof.Machine

/-! ### Starting a command -/

/-- `sess.cmd`, the header and the phase as they are at `exec_begin()` (R324-R326). -/
def State.enterExec (s : State) (c : Byte) (header : List Byte) : State :=
  s.setSess { s.sess with cmd := c, hdr := header ++ s.sess.hdr.drop header.length, hdrFill := header.length,
                          hdrNeed := header.length, phase := .exec, step := 0 }

/-- The start of a command with id `id`, whose work at `exec_begin()` is `f` (R324, R326); a lock-required command while
locked is discarded (R346). -/
def startCommand (id : BitVec 5) (mods : BitVec 3) (header : List Byte) (f : State → State) (s : State) : Result :=
  match s.sess.phase with
  | .awaitId =>
    if lockRequired id && !s.sess.unlocked then returning .none s
    else returning .none (f (s.enterExec (mkCommand mods id) header))
  | .header => returning .none (f (s.enterExec (mkCommand mods id) header))
  | .exec => returning .notEnabled s

/-- `out <- bytes` (R330-R344), sent by `emit_step`; "A command that has no output and no stream calls `finish()` at
once" (R326). -/
def State.setOut (s : State) (bytes : List Byte) : State :=
  if bytes = [] then s.finishCommand else s.setSess { s.sess with out := bytes }

/-- The address and length of a burst (R335, R337, R341). -/
def State.setBurst (s : State) (addr len : Word) : State := s.setSess { s.sess with addr := addr, count := len }

/-- The address bytes of a header (R128). -/
def addrBytes (addr : Word) : List Byte := [loByte addr, hiByte addr]

/-! ### The commands -/

/-- PING (R330). -/
def execPing (mods : BitVec 3) (data : List Byte) (s : State) : Result :=
  startCommand 0x01#5 mods data (fun t => t.setOut data) s

/-- UNLOCK (R331): a mismatch discards the command silently. -/
def execUnlock (mods : BitVec 3) (key : List Byte) (s : State) : Result :=
  startCommand 0x02#5 mods key
    (fun t =>
      if key = t.cfg.unlockKey then (t.setSess { t.sess with unlocked := true }).setOut key else t.finishCommand) s

/-- SET_MODE (R332). -/
def execSetMode (mods : BitVec 3) (mode : Byte) (s : State) : Result :=
  startCommand 0x03#5 mods [mode]
    (fun t =>
      ((t.setSess { t.sess with mode := mode &&& t.cfg.modeMask }).busMode (mode &&& t.cfg.modeMask)).finishCommand) s

/-- GET_MODE (R333). -/
def execGetMode (mods : BitVec 3) (s : State) : Result :=
  startCommand 0x04#5 mods [] (fun t => t.pinRead.2.setOut [t.sess.mode, t.pinRead.1]) s

/-- READ (R334). -/
def execRead (mods : BitVec 3) (addr : Word) (s : State) : Result :=
  startCommand 0x05#5 mods (addrBytes addr)
    (fun t => (t.busRead addr (modCs mods) false).2.setOut [(t.busRead addr (modCs mods) false).1]) s

/-- READ_BURST (R335). -/
def execReadBurst (mods : BitVec 3) (addr len : Word) (s : State) : Result :=
  startCommand 0x06#5 mods (addrBytes addr ++ addrBytes len) (fun t => t.setBurst addr len) s

/-- WRITE (R336). -/
def execWrite (mods : BitVec 3) (addr : Word) (data : Byte) (s : State) : Result :=
  startCommand 0x07#5 mods (addrBytes addr ++ [data])
    (fun t => (t.busWrite addr data (modCs mods) (modAlt mods)).finishCommand) s

/-- WRITE_BURST (R337). -/
def execWriteBurst (mods : BitVec 3) (addr len : Word) (s : State) : Result :=
  startCommand 0x08#5 mods (addrBytes addr ++ addrBytes len) (fun t => t.setBurst addr len) s

/-- POLL_FLASH_DATA (R338). -/
def execPollFlashData (mods : BitVec 3) (addr : Word) (polarity : Byte) (s : State) : Result :=
  startCommand 0x09#5 mods (addrBytes addr ++ [polarity])
    (fun t => t.setSess
      { t.sess with poll := some { addr := addr, pol := polarityOperand polarity, cs := modCs mods } }) s

/-- SET_FLASH_WRITE_SEQUENCE (R340): more than 16 records leave the stored sequence and discard the command. -/
def execSetFlashWriteSequence (mods : BitVec 3) (n : Byte) (s : State) : Result :=
  startCommand 0x0A#5 mods [n]
    (fun t =>
      if 16 < n.toNat then t.finishCommand
      else (t.setFlashseq { t.flashseq with count := n.toNat }).setSess
        { t.sess with count := BitVec.ofNat 16 (3 * n.toNat), step := 0 }) s

/-- FLASH_BURST (R341). -/
def execFlashBurst (mods : BitVec 3) (addr len : Word) (s : State) : Result :=
  startCommand 0x0B#5 mods (addrBytes addr ++ addrBytes len) (fun t => t.setBurst addr len) s

/-- DIAGNOSTICS (R342). -/
def execDiagnostics (mods : BitVec 3) (s : State) : Result :=
  startCommand 0x1D#5 mods [] (fun t => t.setOut (Config.diagFormat t.diag)) s

/-- RESET (R343): staged as the vendor request stages it. -/
def execReset (mods : BitVec 3) (magic : Byte) (s : State) : Result :=
  startCommand 0x1E#5 mods [magic] (fun t => (t.stageReset magic).finishCommand) s

/-- IDENTIFY (R344). -/
def execIdentify (mods : BitVec 3) (s : State) : Result :=
  startCommand 0x1F#5 mods [] (fun t => t.setOut (identBytes t.cfg)) s

/-! ### Stream steps -/

/-- `sess.count - 1`, "decremented only when non-zero" (R126, log 14). -/
def countDown (c : Word) : Word := if c = 0#16 then 0#16 else c - 1#16

/-- `sess.addr <- sess.addr + 1 (mod 2^16) ; sess.count <- sess.count - 1` (R335, R337, R341). -/
def State.advanceBurst (s : State) : State :=
  s.setSess { s.sess with addr := s.sess.addr + 1#16, count := countDown s.sess.count }

/-- The READ_BURST stream step's bus read, once the pipe has space (R335): the byte to send and the state after. -/
def State.streamReadBurst (s : State) : Byte × State :=
  s.busRead s.sess.addr (modCs (commandMods s.sess.cmd)) (modAlt (commandMods s.sess.cmd))

/-- The WRITE_BURST stream step with its byte (R337). -/
def State.streamWriteBurst (s : State) (b : Byte) : State :=
  (s.busWrite s.sess.addr b (modCs (commandMods s.sess.cmd)) (modAlt (commandMods s.sess.cmd))).advanceBurst

/-- The record after byte `k mod 3` of it has arrived (R340). -/
def writeRecByte (r : WriteRec) (part : Nat) (b : Byte) (flags : BitVec 3) : WriteRec :=
  match part with
  | 0 => { r with addr := le16 b (hiByte r.addr), flags := flags }
  | 1 => { r with addr := le16 (loByte r.addr) b }
  | _ => { r with data := b }

/-- The SET_FLASH_WRITE_SEQUENCE stream step with its byte (R340): byte k of the stream is byte k mod 3 of record
k div 3. -/
def State.streamWriteSequence (s : State) (b : Byte) : State :=
  let k := s.sess.step
  (s.setFlashseq { s.flashseq with
      recs := s.flashseq.recs.modify (k / 3) fun r => writeRecByte r (k % 3) b (commandMods s.sess.cmd) }).setSess
    { s.sess with step := k + 1, count := countDown s.sess.count }

/-- The replay of the stored sequence before a flash write (R341): flags bit 2 is chip-select, bit 1 the alternate
strobe. -/
def State.replay (s : State) : List WriteRec → State
  | [] => s
  | r :: rs => (s.busWrite r.addr r.data (r.flags.getLsbD 2) (r.flags.getLsbD 1)).replay rs

/-- The FLASH_BURST stream step with its byte (R341): 0xFF only advances the address. -/
def State.streamFlashBurst (s : State) (b : Byte) : State :=
  let a := s.sess.addr
  let s := s.advanceBurst
  if b = 0xFF#8 then s
  else
    let s := s.replay (s.flashseq.recs.take s.flashseq.count)
    let s := s.busWrite a b (modCs (commandMods s.sess.cmd)) (modAlt (commandMods s.sess.cmd))
    s.setSess
      { s.sess with poll := some { addr := a, pol := b.getLsbD 7, cs := modCs (commandMods s.sess.cmd) } }

/-- `poll_iteration()` (R339): two reads; equal and of the right polarity they end the loop, and POLL_FLASH_DATA returns
the value. -/
def State.pollIteration (s : State) (p : Poll) : State :=
  let r1 := s.busRead p.addr p.cs false
  let r2 := r1.2.busRead p.addr p.cs false
  if r1.1 = r2.1 ∧ r2.1.getLsbD 7 = p.pol then
    let s := r2.2.setSess { r2.2.sess with poll := none }
    if commandId s.sess.cmd = 0x09#5 then s.setSess { s.sess with out := [r2.1], step := 0 } else s
  else r2.2

end Sys2Proof.Machine
end

