-- ==== Sys2Proof/Machine/Events.lean ====
section
/-! DEFINITION. The engine's acts, format EVT16 (40_device_events.md R160-R171): the enabling conditions of R162 and the
acts of R161 and R163. The handlers run in a later IRQ step (Interrupt.lean). -/

namespace Sys2Proof.Machine

/-- "No act is enabled while `dev.state = DETACHED`" (R162). -/
def State.engineOn (s : State) : Bool := decide (s.dev.state ≠ .detached)

/-- The conditions every EV_TRN_* shares: `dev.state = DEFAULT ∧ RESET ∉ irq.pending` (R162). -/
def State.transactionsOn (s : State) : Bool := decide (s.dev.state = .default) && !s.irq.pending.reset

/-- The descriptor is the engine's (R162). -/
def State.engineOwns (s : State) (d : DescId) : Bool := decide ((s.desc d).own = .engine)

/-- The engine may complete an IN or OUT transaction on the descriptor: ENGINE-owned and not stalled (R162). -/
def State.completable (s : State) (d : DescId) : Bool :=
  s.transactionsOn && s.engineOwns d && !(s.desc d).stall

/-- EV_SE0_EXIT (R164): `dev.state <- POWERED`, with no handler. -/
def execEvSe0Exit (s : State) : Result :=
  whenEnabled (decide (s.dev.state = .attached)) s <|
    returning .none (s.setDev { s.dev with state := .powered })

/-- EV_BUS_RESET (R165): RESET becomes pending and the engine clears its ping-pong pointers. -/
def execEvBusReset (s : State) : Result :=
  whenEnabled s.engineOn s <|
    returning .none
      ((s.setPending { s.irq.pending with reset := true }).setSie { ppbiOut := false, ppbiIn := false }).noteActivity

/-- EV_IDLE (R169): IDLE becomes pending. -/
def execEvIdle (s : State) : Result :=
  whenEnabled (s.engineOn && !s.dev.suspended) s <|
    returning .none (s.setPending { s.irq.pending with idle := true }).noteActivity

/-- EV_ACTIVITY (R170): ACTIVITY becomes pending. -/
def execEvActivity (s : State) : Result :=
  whenEnabled (s.engineOn && s.dev.suspended && !s.irq.pending.activity) s <|
    returning .none (s.setPending { s.irq.pending with activity := true })

/-- EV_ERROR c (R171): the classes are collected and ERROR becomes pending. -/
def execEvError (classes : BitVec 6) (s : State) : Result :=
  whenEnabled (s.engineOn && decide (classes ≠ 0#6)) s <|
    returning .none
      (s.setIrq { s.irq with errBits := s.irq.errBits ||| classes,
                             pending := { s.irq.pending with error := true } }).noteActivity

/-- The act of a completed SETUP or OUT transaction on `d` (R163): bytes, count, ownership, completion. -/
def State.receive (s : State) (d : DescId) (bytes : List Byte) (record : Completion) : State :=
  let s := s.writeBufs d 0 bytes
  (s.setDesc d { s.desc d with count := BitVec.ofNat 10 bytes.length }).complete d record

/-- EV_TRN_SETUP [8 bytes] (R163): accepted into an ENGINE-owned endpoint-0 OUT descriptor, "any stall, any DTS"
(R162). -/
def execEvTrnSetup (packet : List Byte) (s : State) : Result :=
  whenEnabled (s.transactionsOn && s.engineOwns .ep0Out && packet.length == 8) s <|
    returning .none (s.receive .ep0Out packet { kind := .setup, ep := .ep0, half := false }).noteActivity

/-- EV_TRN_OUT ep h [n bytes] (R163), with the enabling of R162 for each endpoint. -/
def execEvTrnOut (ep : Endpoint) (half : Bit) (data : List Byte) (s : State) : Result :=
  match ep with
  | .ep0 =>
    whenEnabled (s.completable .ep0Out && decide (data.length ≤ s.cfg.ep0Size.bytes) && !half) s <|
      returning .none (s.receive .ep0Out data { kind := .out, ep := .ep0, half := false }).noteActivity
  | .notif => whenEnabled false s (returning .none s)
  | .bulk =>
    whenEnabled (s.completable (.bulkOut half) && half == s.sie.ppbiOut && decide (data.length ≤ 64)) s <|
      returning .none
        ((s.receive (.bulkOut half) data { kind := .out, ep := .bulk, half := half }).setSie
          { s.sie with ppbiOut := !s.sie.ppbiOut }).noteActivity

/-- The packet an IN transaction on `d` puts on the wire (R163): the descriptor's toggle and its first `count` bytes. -/
def State.wirePacket (s : State) (d : DescId) (ep : Endpoint) : Packet :=
  { ep := ep, dts := (s.desc d).dts, data := s.readBufs d 0 (s.desc d).count.toNat }

/-- The act of a completed IN transaction on `d` (R163): the packet on the wire, ownership, completion. -/
def State.transmit (s : State) (d : DescId) (record : Completion) : State :=
  (s.setWireIn (s.wireIn ++ [s.wirePacket d record.ep])).complete d record

/-- A count beyond the buffer names bytes that do not exist (R81, log 10); no rule writes such a count. -/
def withinBuffer (s : State) (d : DescId) (r : Result) : Result :=
  if (s.desc d).count.toNat ≤ capacity s.cfg d then r else .fault (.noSuchByte d (capacity s.cfg d))

/-- EV_TRN_IN ep h (R163), with the enabling of R162 for each endpoint. -/
def execEvTrnIn (ep : Endpoint) (half : Bit) (s : State) : Result :=
  match ep with
  | .ep0 =>
    whenEnabled (s.completable .ep0In && !half) s <| withinBuffer s .ep0In <|
      returning .none (s.transmit .ep0In { kind := .inp, ep := .ep0, half := false }).noteActivity
  | .notif => whenEnabled false s (returning .none s)
  | .bulk =>
    whenEnabled (s.completable (.bulkIn half) && half == s.sie.ppbiIn) s <| withinBuffer s (.bulkIn half) <|
      returning .none
        ((s.transmit (.bulkIn half) { kind := .inp, ep := .bulk, half := half }).setSie
          { s.sie with ppbiIn := !s.sie.ppbiIn }).noteActivity

end Sys2Proof.Machine
end

