-- ==== Sys2Proof/Machine/Pipe.lean ====
section
/-! DEFINITION. The bulk pipe's firmware operations, format FWOP16 (42_bulk_pipe.md R270-R281), and its completion
bookkeeping in the interrupt context (R290, R291). Each operation is one atomic main-loop step; its critical section
opens and closes inside the step (R270). -/

namespace Sys2Proof.Machine

/-! ### Receive direction -/

/-- `rx_rearm(h)` (R272): arm the drained half with DTS = half, mark it busy, flip the firmware parity. -/
def State.rxRearm (s : State) (h : Bit) : State :=
  let s := s.arm (.bulkOut h) 64 h
  s.setRx { s.rx with busy := s.rx.busy.put h true, next := !s.rx.next }

/-- `rx_try_expose()` (R275): only the half `rx.next` is looked at. -/
def State.rxTryExpose (s : State) : State :=
  if s.rx.busy.get s.rx.next then s
  else s.setRx { s.rx with slice := some { half := s.rx.next, off := 0,
                                           len := (s.desc (.bulkOut s.rx.next)).count.toNat } }

/-- `{valid, len}` of the receive slice (R271, R275). -/
def State.rxAcquired (s : State) : Ret :=
  match s.rx.slice with
  | some x => .acquired true x.len
  | none => .acquired false 0

/-- The first step of ACQ_RX (R271): an exhausted slice's half is re-armed and the slice dropped. -/
def State.rxRecycle (s : State) : State :=
  match s.rx.slice with
  | some x => if x.len = 0 then (s.rxRearm x.half).setRx { (s.rxRearm x.half).rx with slice := none } else s
  | none => s

/-- The rest of ACQ_RX (R271): an active slice is returned as it is, otherwise one is exposed if its half is free. -/
def State.rxAcquire (s : State) : State :=
  match s.rx.slice with
  | some _ => s
  | none => s.rxTryExpose

/-- ACQ_RX (R271). -/
def execAcqRx (s : State) : Result :=
  whenAwake s <|
    if s.pipeArmed then returning s.rxRecycle.rxAcquire.rxAcquired s.rxRecycle.rxAcquire
    else returning (.acquired false 0) s

/-- RX_READ i (R273). Reading does not consume. -/
def execRxRead (index : BitVec 6) (s : State) : Result :=
  whenAwake s <|
    match s.rx.slice with
    | none => .fault .noSlice
    | some x =>
      if x.len ≤ index.toNat then .fault (.sliceRange index.toNat x.len)
      else if x.off + index.toNat < 64 then
        returning (.byte (s.readBuf (.bulkOut x.half) (x.off + index.toNat))) s
      else .fault (.noSuchByte (.bulkOut x.half) (x.off + index.toNat))

/-- RX_TAKE n (R274). -/
def execRxTake (count : Byte) (s : State) : Result :=
  whenAwake s <|
    match s.rx.slice with
    | none => .fault .noSlice
    | some x =>
      if x.len < count.toNat then .fault (.sliceRange count.toNat x.len)
      else
        returning .none
          (s.setRx { s.rx with slice := some { x with off := x.off + count.toNat, len := x.len - count.toNat } })

/-! ### Transmit direction -/

/-- `tx_try_acquire()` (R277): only the half `tx.next` is looked at. -/
def State.txTryAcquire (s : State) : State :=
  match s.tx.slice with
  | some _ => s
  | none =>
    if s.tx.busy.get s.tx.next then s
    else s.setTx { s.tx with slice := some { half := s.tx.next, fill := 0, rem := 64 } }

/-- `tx_arm(h, n)` (R280): arm the half with DTS = half, mark it busy, flip the firmware parity, drop the slice; a full
packet owes a zero-length one. -/
def State.txArm (s : State) (h : Bit) (n : Nat) : State :=
  let s := s.arm (.bulkIn h) n h
  s.setTx { s.tx with busy := s.tx.busy.put h true, next := !s.tx.next, slice := none, zlpOwed := decide (n = 64) }

/-- The end of `flush_body()` with a slice (R281): an empty slice with nothing owed is kept, otherwise the slice is
armed and a fresh half tried. -/
def State.flushSlice (s : State) (x : TxSlice) : Bool × State :=
  if x.fill = 0 ∧ s.tx.zlpOwed = false then (true, s)
  else (!((s.txArm x.half x.fill).txTryAcquire).tx.zlpOwed, (s.txArm x.half x.fill).txTryAcquire)

/-- `flush_body()` (R281): the result and the state after. -/
def State.flushBody (s : State) : Bool × State :=
  match s.tx.slice with
  | some x => s.flushSlice x
  | none =>
    if s.tx.zlpOwed then
      match s.txTryAcquire.tx.slice with
      | some x => s.txTryAcquire.flushSlice x
      | none => (false, s.txTryAcquire)
    else (true, s)

/-- `{valid, rem}` of the transmit slice (R276, R277). -/
def State.txAcquired (s : State) : Ret :=
  match s.tx.slice with
  | some x => .acquired true x.rem
  | none => .acquired false 0

/-- The first step of ACQ_TX (R276): a full slice is flushed, its result ignored. -/
def State.txRecycle (s : State) : State :=
  match s.tx.slice with
  | some x => if x.rem = 0 then s.flushBody.2 else s
  | none => s

/-- ACQ_TX (R276). -/
def execAcqTx (s : State) : Result :=
  whenAwake s <|
    if s.pipeArmed then returning s.txRecycle.txTryAcquire.txAcquired s.txRecycle.txTryAcquire
    else returning (.acquired false 0) s

/-- TX_PUT b (R278). -/
def execTxPut (b : Byte) (s : State) : Result :=
  whenAwake s <|
    match s.tx.slice with
    | none => .fault .noSlice
    | some x =>
      if x.rem = 0 then .fault (.sliceRange x.fill 64)
      else if x.fill < 64 then
        returning .none
          ((s.writeBuf (.bulkIn x.half) x.fill b).setTx
            { s.tx with slice := some { x with fill := x.fill + 1, rem := x.rem - 1 } })
      else .fault (.noSuchByte (.bulkIn x.half) x.fill)

/-- FLUSH (R281). -/
def execFlush (s : State) : Result :=
  whenAwake s <|
    if s.pipeArmed then returning (.flag s.flushBody.1) s.flushBody.2 else returning (.flag false) s

/-! ### Completion bookkeeping (R290, R291) -/

/-- `bulk_out_complete(r)` (R290). -/
def bulkOutComplete (r : Bit) (s : State) : Result :=
  if !s.pipeArmed then .fault (.unexpectedCompletion { kind := .out, ep := .bulk, half := r })
  else if r ≠ s.rx.eng then .fault (.parityDesync .out r s.rx.eng)
  else if !s.rx.busy.get s.rx.eng then .fault (.completionUnarmed .out s.rx.eng)
  else returnFromInterrupt (s.setRx { s.rx with busy := s.rx.busy.put s.rx.eng false, eng := !s.rx.eng })

/-- `bulk_in_complete(r)` (R291). -/
def bulkInComplete (r : Bit) (s : State) : Result :=
  if !s.pipeArmed then .fault (.unexpectedCompletion { kind := .inp, ep := .bulk, half := r })
  else if r ≠ s.tx.eng then .fault (.parityDesync .inp r s.tx.eng)
  else if !s.tx.busy.get s.tx.eng then .fault (.completionUnarmed .inp s.tx.eng)
  else returnFromInterrupt (s.setTx { s.tx with busy := s.tx.busy.put s.tx.eng false, eng := !s.tx.eng })

end Sys2Proof.Machine
end

