-- ==== Sys2Proof/Machine/Interrupt.lean ====
section
/-! DEFINITION. The interrupt context: the handlers of the five sources (40_device_events.md R165-R172), the dispatch of a
SETUP packet (R202), and the step IRQ (60_exceptions.md R384). -/

namespace Sys2Proof.Machine

/-- The ACTIVITY handler (R170). -/
def handleActivity (s : State) : Result :=
  let s := if s.dev.suspended then
      (s.setMask s.irq.savedMask).setDev { s.dev with clock := .normal, suspended := false }
    else s
  let s := s.setMain { s.main with asleep := false }
  returnFromInterrupt (s.setPending { s.irq.pending with activity := false })

/-- The RESET handler (R165). -/
def handleReset (s : State) : Result :=
  let s := s.usbResetInit
  let s := (s.setDev { s.dev with state := .default }).setTrn []
  returnFromInterrupt (s.setPending { s.irq.pending with reset := false })

/-- The IDLE handler (R169): a stale ACTIVITY is removed, the mask saved, the device suspended. -/
def handleIdle (s : State) : Result :=
  let s := s.setPending { s.irq.pending with activity := false }
  let s := s.setIrq { s.irq with savedMask := s.irq.mask }
  let s := s.setDev { s.dev with clock := .lowPower }
  let s := s.setMask maskSuspend
  let s := s.setDev { s.dev with suspended := true }
  returnFromInterrupt (s.setPending { s.irq.pending with idle := false })

/-- The ERROR handler (R171): each pending class sets its sticky flag and counts; at MAX the count is a draw. -/
def handleError (s : State) : Result :=
  let s := (s.setDiag (bumpDiag (errMax s.cfg) s.irq.errBits s.draws s.diag)).drew 6
  let s := s.setIrq { s.irq with errBits := 0#6 }
  returnFromInterrupt (s.setPending { s.irq.pending with error := false })

/-- The dispatcher of R202 after the decoder has matched the request key: one direct call of the request's meaning.
The operations of the other formats are no requests. -/
def runRequest (i : Instr) (s : State) : Result :=
  match i with
  | .getStatus q => execGetStatus q s
  | .setAddress q => execSetAddress q s
  | .getDescriptor q => execGetDescriptor q s
  | .getConfiguration q => execGetConfiguration q s
  | .setConfiguration q => execSetConfiguration q s
  | .getInterface q => execGetInterface q s
  | .setInterface q => execSetInterface q s
  | .sendEncapsulatedCommand q => execSendEncapsulatedCommand q s
  | .getEncapsulatedResponse q => execGetEncapsulatedResponse q s
  | .setLineCoding q => execSetLineCoding q s
  | .getLineCoding q => execGetLineCoding q s
  | .setControlLineState q => execSetControlLineState q s
  | .vendorReset q => execVendorReset q s
  | .vendorIdentify q => execVendorIdentify q s
  | .evSe0Exit | .evBusReset | .evIdle | .evActivity | .evError _ | .evTrnSetup _ | .evTrnOut _ _ _ | .evTrnIn _ _
  | .attach | .acqRx | .rxRead _ | .rxTake _ | .acqTx | .txPut _ | .flush | .isActive | .csEnter | .csExit | .sleep
  | .resetExec | .irq | .watchdog
  | .ping _ _ | .unlock _ _ | .setMode _ _ | .getMode _ | .read _ _ | .readBurst _ _ _ | .write _ _ _
  | .writeBurst _ _ _ | .pollFlashData _ _ _ | .setFlashWriteSequence _ _ | .flashBurst _ _ _ | .diagnostics _
  | .reset _ _ | .identify _ => stallSetup s

/-- The SETUP packet the engine has written (R120, R201). -/
def State.setupPacket (s : State) : List Byte := s.readBufs .ep0Out 0 8

/-- `setup_stage()` (R201): decode the packet and run the request; an unmatched request stalls (R221). -/
def setupStage (s : State) : Result :=
  match decodeSetup s.cfg s.setupPacket with
  | .ok i => runRequest i s
  | .reject _ => stallSetup s

/-- The TRN handler's choice for a completion already taken from the queue (R172). -/
def handleCompletion (e : Completion) (s : State) : Result :=
  match e.kind, e.ep with
  | .setup, .ep0 => setupStage s
  | .out, .ep0 => ep0OutComplete s
  | .inp, .ep0 => ep0InComplete s
  | .out, .bulk => bulkOutComplete e.half s
  | .inp, .bulk => bulkInComplete e.half s
  | .setup, .notif => .fault (.unexpectedCompletion e)
  | .setup, .bulk => .fault (.unexpectedCompletion e)
  | .out, .notif => .fault (.unexpectedCompletion e)
  | .inp, .notif => .fault (.unexpectedCompletion e)

/-- The TRN handler (R172): one queued completion. With an empty queue the source is not pending (R384). -/
def handleTrn (s : State) : Result :=
  match s.irq.trn with
  | [] => returning .notEnabled s
  | e :: rest => handleCompletion e (s.setTrn rest)

/-- The handler of a source (R384). -/
def handleSource (s : State) : Source → Result
  | .activity => handleActivity s
  | .reset => handleReset s
  | .idle => handleIdle s
  | .error => handleError s
  | .trn => handleTrn s

/-- IRQ (R384): one step handles one source. It needs no awake main loop. -/
def execIrq (s : State) : Result := takeInterrupt s (handleSource s)

end Sys2Proof.Machine
end

