-- ==== Sys2Proof/Machine/System.lean ====
section
/-! DEFINITION. The system firmware operations, format FWOP16 (42_bulk_pipe.md R292-R298), and the watchdog, format
SCHED16 (43_command_protocol.md R347). -/

namespace Sys2Proof.Machine

/-- ATTACH (R292): in any state other than DETACHED it has no effect. -/
def execAttach (s : State) : Result :=
  whenAwake s <|
    if s.dev.state = .detached then
      let s := s.usbResetInit
      let s := s.setDev { s.dev with state := .attached }
      returning .none ((s.setMask maskNormal).setEnable true)
    else returning .none s

/-- IS_ACTIVE (R293): one read of the shared flags. -/
def execIsActive (s : State) : Result := whenAwake s (returning (.flag s.active) s)

/-- CS_ENTER (R294): the enable bit is saved and cleared. -/
def execCsEnter (s : State) : Result :=
  whenAwake s <|
    returning .none (s.setIrq { s.irq with csStack := s.irq.enable :: s.irq.csStack, enable := false })

/-- CS_EXIT (R295): the enable bit is restored, "not a counter". -/
def execCsExit (s : State) : Result :=
  whenAwake s <|
    match s.irq.csStack with
    | [] => .fault .csUnbalanced
    | saved :: rest => returning .none (s.setIrq { s.irq with enable := saved, csStack := rest })

/-- SLEEP (R296): the test of `dev.suspended` and the sleep are one step. -/
def execSleep (s : State) : Result :=
  whenAwake s <|
    returning .none (if s.dev.suspended then s.setMain { s.main with asleep := true } else s)

/-- RESET_EXEC (R298): with no reset staged it has no effect. -/
def execResetExec (s : State) : Result :=
  whenAwake s <|
    returning .none (if s.dev.pendingReset then s.deviceReset else s)

/-- WATCHDOG (R347): "enabled only while `sess.poll ≠ none`"; "as RESET_EXEC … but without `dev.pending_reset`". -/
def execWatchdog (s : State) : Result :=
  whenEnabled s.sess.poll.isSome s (returning .none s.deviceReset)

end Sys2Proof.Machine
end

