-- ==== Sys2Proof/Machine/Dispatch.lean ====
section
/-! DEFINITION. The operations' meanings, one arm per constructor. -/

namespace Sys2Proof.Machine

/-- The meaning of an operation. -/
def exec (i : Instr) (s : State) : Host.Outcome State Fault Refusal :=
  match i with
  | .evSe0Exit => Sys2Proof.Machine.execEvSe0Exit s
  | .evBusReset => Sys2Proof.Machine.execEvBusReset s
  | .evIdle => Sys2Proof.Machine.execEvIdle s
  | .evActivity => Sys2Proof.Machine.execEvActivity s
  | .evError classes => Sys2Proof.Machine.execEvError classes s
  | .evTrnSetup packet => Sys2Proof.Machine.execEvTrnSetup packet s
  | .evTrnOut ep half data => Sys2Proof.Machine.execEvTrnOut ep half data s
  | .evTrnIn ep half => Sys2Proof.Machine.execEvTrnIn ep half s
  | .attach => Sys2Proof.Machine.execAttach s
  | .acqRx => Sys2Proof.Machine.execAcqRx s
  | .rxRead index => Sys2Proof.Machine.execRxRead index s
  | .rxTake count => Sys2Proof.Machine.execRxTake count s
  | .acqTx => Sys2Proof.Machine.execAcqTx s
  | .txPut byte => Sys2Proof.Machine.execTxPut byte s
  | .flush => Sys2Proof.Machine.execFlush s
  | .isActive => Sys2Proof.Machine.execIsActive s
  | .csEnter => Sys2Proof.Machine.execCsEnter s
  | .csExit => Sys2Proof.Machine.execCsExit s
  | .sleep => Sys2Proof.Machine.execSleep s
  | .resetExec => Sys2Proof.Machine.execResetExec s
  | .irq => Sys2Proof.Machine.execIrq s
  | .watchdog => Sys2Proof.Machine.execWatchdog s
  | .getStatus q => Sys2Proof.Machine.execGetStatus q s
  | .setAddress q => Sys2Proof.Machine.execSetAddress q s
  | .getDescriptor q => Sys2Proof.Machine.execGetDescriptor q s
  | .getConfiguration q => Sys2Proof.Machine.execGetConfiguration q s
  | .setConfiguration q => Sys2Proof.Machine.execSetConfiguration q s
  | .getInterface q => Sys2Proof.Machine.execGetInterface q s
  | .setInterface q => Sys2Proof.Machine.execSetInterface q s
  | .sendEncapsulatedCommand q => Sys2Proof.Machine.execSendEncapsulatedCommand q s
  | .getEncapsulatedResponse q => Sys2Proof.Machine.execGetEncapsulatedResponse q s
  | .setLineCoding q => Sys2Proof.Machine.execSetLineCoding q s
  | .getLineCoding q => Sys2Proof.Machine.execGetLineCoding q s
  | .setControlLineState q => Sys2Proof.Machine.execSetControlLineState q s
  | .vendorReset q => Sys2Proof.Machine.execVendorReset q s
  | .vendorIdentify q => Sys2Proof.Machine.execVendorIdentify q s
  | .ping mods data => Sys2Proof.Machine.execPing mods data s
  | .unlock mods key => Sys2Proof.Machine.execUnlock mods key s
  | .setMode mods mode => Sys2Proof.Machine.execSetMode mods mode s
  | .getMode mods => Sys2Proof.Machine.execGetMode mods s
  | .read mods addr => Sys2Proof.Machine.execRead mods addr s
  | .readBurst mods addr len => Sys2Proof.Machine.execReadBurst mods addr len s
  | .write mods addr data => Sys2Proof.Machine.execWrite mods addr data s
  | .writeBurst mods addr len => Sys2Proof.Machine.execWriteBurst mods addr len s
  | .pollFlashData mods addr polarity => Sys2Proof.Machine.execPollFlashData mods addr polarity s
  | .setFlashWriteSequence mods n => Sys2Proof.Machine.execSetFlashWriteSequence mods n s
  | .flashBurst mods addr len => Sys2Proof.Machine.execFlashBurst mods addr len s
  | .diagnostics mods => Sys2Proof.Machine.execDiagnostics mods s
  | .reset mods magic => Sys2Proof.Machine.execReset mods magic s
  | .identify mods => Sys2Proof.Machine.execIdentify mods s

end Sys2Proof.Machine
end

