-- ==== Sys2Proof/Machine/MainLoop.lean ====
section
/-! DEFINITION. The main loop's own program (43_command_protocol.md R320-R329): each firmware call is one step, and "the
dispatcher's own computation between two calls belongs to the step of the call before it". The place between two calls
is `main.point` (log 13). -/

namespace Sys2Proof.Machine

/-- The main loop's program at a place. -/
def State.at (s : State) (p : MainPoint) : State := s.setMain { s.main with point := p }

/-- The firmware call that the main loop issues at a place (R321-R323, R328, R335). -/
def mainCall : MainPoint → Instr
  | .attach => .attach
  | .top => .isActive
  | .resetExec => .resetExec
  | .sleep => .sleep
  | .rxAcq _ => .acqRx
  | .rxAcqAgain _ => .acqRx
  | .rxRead _ => .rxRead 0#6
  | .rxTake _ _ => .rxTake 1#8
  | .emitAcq _ => .acqTx
  | .emitPut v => .txPut v
  | .burstAcq => .acqTx
  | .burstPut v => .txPut v
  | .flush => .flush

/-! ### Dispatcher steps between calls (R322, R328, R335, R337, R340, R341) -/

/-- A command has ended: the next `dispatch_step` waits for an id. -/
def State.finishAndAwait (s : State) : State := s.finishCommand.at (.rxAcq .id)

/-- `stream_step()` up to its first call (R335, R337, R340, R341): with `sess.count = 0` the command ends, and
FLASH_BURST first echoes the remaining length. A command that has neither output nor stream ends (R326). -/
def State.streamPoint (s : State) : State :=
  match (commandId s.sess.cmd).toNat with
  | 0x06 => if s.sess.count = 0#16 then s.finishAndAwait else s.at .burstAcq
  | 0x08 => if s.sess.count = 0#16 then s.finishAndAwait else s.at (.rxAcq .writeBurst)
  | 0x0A => if s.sess.count = 0#16 then s.finishAndAwait else s.at (.rxAcq .writeSequence)
  | 0x0B =>
    if s.sess.count = 0#16 then (s.setSess { s.sess with out := [0x00#8, 0x00#8], step := 0 }).at (.emitAcq 0x00#8)
    else s.at (.rxAcq .flashBurst)
  | _ => s.finishAndAwait

/-- `dispatch_step()` up to its next firmware call (R322, R328). -/
def State.dispatchPoint (s : State) : State :=
  match s.sess.phase with
  | .awaitId => s.at (.rxAcq .id)
  | .header => s.at (.rxAcq .header)
  | .exec =>
    if s.sess.poll.isSome then s.at .flush
    else if s.sess.out = [] then s.streamPoint
    else
      match s.sess.out[s.sess.step]? with
      | some v => s.at (.emitAcq v)
      | none => s.finishAndAwait

/-- `exec_begin()` of the command whose id byte and header are complete (R326): the command is decoded and executed. -/
def beginCommand (bytes : List Byte) (s : State) : Result :=
  match decodeCommand bytes with
  | .ok i => exec i s
  | .reject _ => .next s.finishCommand

/-- `start_command(b)` (R324): an id outside the table and a lock-required id while locked are discarded (R346); a command
without a header begins at once. -/
def startCommandByte (b : Byte) (s : State) : Result :=
  match headerLen (commandId b) with
  | none => .next s
  | some n =>
    if lockRequired (commandId b) && !s.sess.unlocked then .next s
    else if n = 0 then beginCommand [b] s
    else .next (s.setSess { s.sess with cmd := b, hdrFill := 0, hdrNeed := n, phase := .header })

/-- The HEADER phase's byte (R322, R325): the last one begins the command. -/
def headerByte (b : Byte) (s : State) : Result :=
  let s := s.setSess { s.sess with hdr := s.sess.hdr.set s.sess.hdrFill b, hdrFill := s.sess.hdrFill + 1 }
  if s.sess.hdrFill = s.sess.hdrNeed then
    beginCommand (s.sess.cmd :: s.sess.hdr.take ((headerLen (commandId s.sess.cmd)).getD 0)) s
  else .next s

/-- What the dispatcher does with the byte `rx_byte()` returned (R322, R337, R340, R341). -/
def useByte (use : RxUse) (b : Byte) (s : State) : Result :=
  match use with
  | .id => startCommandByte b s
  | .header => headerByte b s
  | .writeBurst => .next (s.streamWriteBurst b)
  | .writeSequence => .next (s.streamWriteSequence b)
  | .flashBurst => .next (s.streamFlashBurst b)

/-- The computation after a next state, before the step ends. -/
def andThen (r : Result) (f : State → State) : Result :=
  match r with
  | .next s => .next (f s)
  | .fault x => .fault x
  | .refused x => .refused x

/-- After IS_ACTIVE (R321): active, a poll begins; otherwise the command is abandoned (R329) and the main loop resets,
sleeps or waits. -/
def State.afterActive (s : State) : State :=
  if s.ret = .flag true then s.dispatchPoint
  else if s.dev.pendingReset then s.finishCommand.at .resetExec
  else if s.dev.suspended then s.finishCommand.at .sleep
  else s.finishCommand.at .top

/-- After RESET_EXEC (R298, R321): executed, the power-on state already is at ATTACH; with nothing staged the main loop
goes on. -/
def State.afterResetExec (s : State) : State := if s.main.point = .resetExec then s.at .top else s

/-- After the first ACQ_RX of `rx_byte` (R323): an empty slice is looked at once more. -/
def State.afterRxAcq (s : State) (use : RxUse) : State :=
  match s.ret with
  | .acquired true 0 => s.at (.rxAcqAgain use)
  | .acquired true _ => s.at (.rxRead use)
  | _ => s.at .flush

/-- After the second ACQ_RX of `rx_byte` (R323). -/
def State.afterRxAcqAgain (s : State) (use : RxUse) : State :=
  match s.ret with
  | .acquired true 0 => s.at .flush
  | .acquired true _ => s.at (.rxRead use)
  | _ => s.at .flush

/-- After RX_READ(0) of `rx_byte` (R323). -/
def State.afterRxRead (s : State) (use : RxUse) : State :=
  match s.ret with
  | .byte b => s.at (.rxTake use b)
  | _ => s.at .flush

/-- After the ACQ_TX of `tx_byte(v)` (R328): without space there is no progress. -/
def State.afterEmitAcq (s : State) (v : Byte) : State :=
  match s.ret with
  | .acquired true _ => s.at (.emitPut v)
  | _ => s.at .flush

/-- After the ACQ_TX of READ_BURST (R335): "space first, so no read is lost". -/
def State.afterBurstAcq (s : State) : State :=
  match s.ret with
  | .acquired true _ => s.streamReadBurst.2.at (.burstPut s.streamReadBurst.1)
  | _ => s.at .flush

/-- The dispatcher's own computation after the call at a place has given the next state `s` (R321-R323, R328, R335). -/
def mainResume (p : MainPoint) (s : State) : Result :=
  match p with
  | .attach => .next (s.at .top)
  | .top => .next s.afterActive
  | .resetExec => .next s.afterResetExec
  | .sleep => .next (s.at .top)
  | .rxAcq use => .next (s.afterRxAcq use)
  | .rxAcqAgain use => .next (s.afterRxAcqAgain use)
  | .rxRead use => .next (s.afterRxRead use)
  | .rxTake use b => andThen (useByte use b s) State.dispatchPoint
  | .emitAcq v => .next (s.afterEmitAcq v)
  | .emitPut _ => .next (s.setSess { s.sess with step := s.sess.step + 1 }).dispatchPoint
  | .burstAcq => .next s.afterBurstAcq
  | .burstPut _ => .next s.advanceBurst.dispatchPoint
  | .flush => .next (s.at .top)

/-- A step of the main loop's own program (R321): held while asleep (R297); at the head of the loop an iteration of a flash
poll in progress (R339), otherwise the firmware call of its place and what follows it. -/
def mainLoopStep (s : State) : Result :=
  if s.main.asleep then .next (s.setRet .held)
  else
    match s.main.point, s.sess.poll with
    | .top, some p => .next ((s.pollIteration p).setRet .none)
    | point, _ =>
      match exec (mainCall point) s with
      | .next t => mainResume point t
      | .fault x => .fault x
      | .refused x => .refused x

end Sys2Proof.Machine
end

