-- ==== Sys2Proof/Machine/Fetch.lean ====
section
/-! DEFINITION. How an operation comes to run: the turns of the operation port, and where an image is placed so that the
next step runs it (log 1, 18, 19). -/

namespace Sys2Proof.Machine

/-- A line taken from the port: decoded (30_encoding.md R118-R123) and executed, or refused (R123). -/
def runLine (l : Line) (s : State) : Result :=
  match decodeLine s.cfg l with
  | .ok i => exec i s
  | .reject why => .refused (.badWord why)

/-- One step of the machine: the next turn of the port, or a step of the main loop's own program when the port is
empty (log 1). -/
def nextTurn (s : State) : Result :=
  match s.port with
  | [] => mainLoopStep s
  | .mainLoop :: rest => mainLoopStep (s.setPort rest)
  | .line l :: rest => runLine l (s.setPort rest)

/-- A line placed at the head of the port. -/
def placeLine (s : State) (l : Line) : State := s.setPort (.line l :: s.port)

/-- The line of the operation IRQ (R121). -/
def irqLine : Line := ⟨0x2000#16, []⟩

/-- A SETUP packet placed where the next step dispatches it: in `buf[0][OUT]`, its completion the only one queued, the
TRN source the one that IRQ takes, and IRQ at the head of the port (R120, R172, R384). -/
def placePacket (s : State) (bytes : List Byte) : State :=
  let s := s.writeBufs .ep0Out 0 bytes
  let s := s.setDesc .ep0Out { s.desc .ep0Out with own := .firmware, count := BitVec.ofNat 10 bytes.length }
  let s := s.setDev { s.dev with state := .default }
  let s := s.setIrq
    { s.irq with enable := true, mask := maskNormal, trn := [{ kind := .setup, ep := .ep0, half := false }],
                 pending := { reset := false, error := false, activity := false, idle := false } }
  placeLine s irqLine

/-- A command placed where the next main-loop step begins it: its id byte and all but the last byte of its header are
taken, and the last byte is the one in the receive slice that RX_TAKE is about to deliver (R323-R326). -/
def placeCommand (s : State) (bytes : List Byte) : State :=
  let last := bytes.getLastD 0#8
  let s := s.writeBuf (.bulkOut false) 0 last
  let s := s.setRx { s.rx with slice := some { half := false, off := 0, len := 1 } }
  let s := (s.setMain { asleep := false, point := .rxTake (if bytes.length ≤ 1 then .id else .header) last }).setPort
    (.mainLoop :: s.port)
  match bytes with
  | [] => s
  | c :: header =>
    let s := s.setSess { s.sess with unlocked := s.sess.unlocked || lockRequired (commandId c) }
    if header = [] then s.setSess { s.sess with phase := .awaitId }
    else s.setSess { s.sess with phase := .header, cmd := c, hdr := header.dropLast ++ s.sess.hdr.drop (header.length - 1),
                                 hdrFill := header.length - 1, hdrNeed := header.length }

/-- An image placed where the next step runs it. -/
def placeImage (s : State) : Image → State
  | .line l => placeLine s l
  | .packet bytes => placePacket s bytes
  | .command bytes => placeCommand s bytes

/-- A word of the opcode table placed where the next step runs it. The step's decoder must read with the state's own
parameters. -/
def placeTableWord (s : State) (nbits w : Nat) : State := placeImage s (tableImage s.cfg nbits w)

end Sys2Proof.Machine
end

