-- ==== Sys2Proof/Machine/Step.lean ====
section
/-! DEFINITION. The step, and where a word of the opcode table is placed for it. -/

namespace Sys2Proof.Machine

/-- One step (R4, R5; log 1). -/
def step (s : State) : Host.Outcome State Fault Refusal := nextTurn s

/-- The state with an opcode-table word placed where the next step runs it (log 18). -/
def State.withFetchWord (s : State) (nbits w : Nat) : State := placeTableWord s nbits w

end Sys2Proof.Machine
end

