-- ==== Sys2Proof/Laws/Decode.lean ====
section
/-! SUPPORT. The fields of what the encoder builds: one lemma per field (30_encoding.md R111, R112, R118, R127). -/

namespace Sys2Proof

@[simp] theorem loByte_le16 (a b : Byte) : loByte (le16 a b) = a := by
  apply BitVec.eq_of_getLsbD_eq; intro i hi
  have h := BitVec.getLsbD_append (x := b) (y := a) (i := i)
  simp only [hi, if_true] at h
  simpa [loByte, le16, hi] using h

@[simp] theorem hiByte_le16 (a b : Byte) : hiByte (le16 a b) = b := by
  apply BitVec.eq_of_getLsbD_eq; intro i hi
  have h := BitVec.getLsbD_append (x := b) (y := a) (i := 8 + i)
  simpa [hiByte, le16, hi] using h

@[simp] theorem le16_lo_hi (w : Word) : le16 (loByte w) (hiByte w) = w := by
  apply BitVec.eq_of_getLsbD_eq; intro i hi
  have h := BitVec.getLsbD_append (x := hiByte w) (y := loByte w) (i := i)
  refine Eq.trans h ?_
  by_cases h8 : i < 8
  · simp [h8, loByte]
  · have e : 8 + (i - 8) = i := by omega
    simp [h8, hiByte, e, show i - 8 < 8 by omega]

@[simp] theorem wordGroup_mkWord (g k : BitVec 4) (a : Byte) : wordGroup (mkWord g k a) = g := by
  apply BitVec.eq_of_getLsbD_eq; intro i hi
  have h := BitVec.getLsbD_append (x := g ++ k) (y := a) (i := 12 + i)
  have h' := BitVec.getLsbD_append (x := g) (y := k) (i := 4 + i)
  have e : 12 + i - 8 = 4 + i := by omega
  rw [e, h'] at h
  simpa [wordGroup, mkWord, hi, show ¬ 12 + i < 8 by omega] using h

@[simp] theorem wordKind_mkWord (g k : BitVec 4) (a : Byte) : wordKind (mkWord g k a) = k := by
  apply BitVec.eq_of_getLsbD_eq; intro i hi
  have h := BitVec.getLsbD_append (x := g ++ k) (y := a) (i := 8 + i)
  have h' := BitVec.getLsbD_append (x := g) (y := k) (i := i)
  have e : 8 + i - 8 = i := by omega
  rw [e, h'] at h
  simpa [wordKind, mkWord, hi] using h

@[simp] theorem wordArg_mkWord (g k : BitVec 4) (a : Byte) : wordArg (mkWord g k a) = a := by
  apply BitVec.eq_of_getLsbD_eq; intro i hi
  have h := BitVec.getLsbD_append (x := g ++ k) (y := a) (i := i)
  simpa [wordArg, mkWord, hi] using h

@[simp] theorem commandId_mkCommand (m : BitVec 3) (id : BitVec 5) : commandId (mkCommand m id) = id := by
  revert m id; decide

@[simp] theorem commandMods_mkCommand (m : BitVec 3) (id : BitVec 5) : commandMods (mkCommand m id) = m := by
  revert m id; decide

/-- The six low bits of an argument whose two high bits are 0. -/
@[simp] theorem extract_low6 (c : BitVec 6) : (0#2 ++ c : Byte).extractLsb' 0 6 = c := by
  revert c; decide

@[simp] theorem extract_high2 (c : BitVec 6) : (0#2 ++ c : Byte).extractLsb' 6 2 = 0#2 := by
  revert c; decide

theorem toNat_low6 (c : BitVec 6) : (0#2 ++ c : Byte).toNat ≤ 63 := by
  revert c; decide

/-- The fields of an EV_TRN_* argument (R119). -/
theorem trnArg_fields (e : BitVec 4) (h : Bit) :
    (e ++ 0#3 ++ BitVec.ofBool h : Byte).extractLsb' 4 4 = e ∧
    (e ++ 0#3 ++ BitVec.ofBool h : Byte).extractLsb' 1 3 = 0#3 ∧
    (e ++ 0#3 ++ BitVec.ofBool h : Byte).getLsbD 0 = h := by
  revert e h; decide

/-- The fields of a bmRequestType byte (R112). -/
theorem requestType_fields (d : Bit) (t : BitVec 2) (r : BitVec 5) :
    (BitVec.ofBool d ++ t ++ r : Byte).getLsbD 7 = d ∧
    (BitVec.ofBool d ++ t ++ r : Byte).extractLsb' 5 2 = t ∧
    (BitVec.ofBool d ++ t ++ r : Byte).extractLsb' 0 5 = r := by
  revert d t r; decide

/-- The conditions of R8 that decoding rests on. -/
theorem legal_fields {p : Params} (h : p.legal = true) :
    p.epNotif ≠ 0#4 ∧ p.epBulk ≠ 0#4 ∧ p.epNotif ≠ p.epBulk ∧ p.vreqReset ≠ p.vreqIdentify := by
  simp only [Params.legal, Bool.and_eq_true, bne_iff_ne] at h
  exact ⟨h.1.1.1.1.1.1.1.1.1.1, h.1.1.1.1.1.1.1.1.1.2, h.1.1.1.1.1.1.1.1.2, h.1.1.1.1.1.1.1.2⟩

/-- An endpoint's number names it (R37, R123). -/
theorem endpoint_epNumber {p : Params} (h : p.legal = true) (e : Endpoint) : p.endpoint (p.epNumber e) = some e := by
  obtain ⟨h1, h2, h3, _⟩ := legal_fields h
  cases e <;> simp [Params.endpoint, Params.epNumber, h1, h2, Ne.symm h3]

/-- A packet that the encoder builds decodes by its type bits and request code, with all its fields (R111, R112). -/
theorem decodeSetup_packetOf (p : Params) (t : BitVec 2) (rq : Byte) (q : SetupFields) :
    decode p (packetOf t rq q) =
      match t.toNat with
      | 0 => decodeStandard rq q
      | 1 => decodeClass rq q
      | 2 => decodeVendor p rq q
      | _ => .reject .unmatchedRequest := by
  obtain ⟨a, b, c⟩ := requestType_fields q.dirIn t q.recipient
  simp only [packetOf, decode, decodeSetup, decodeRequest, a, b, c, le16_lo_hi] <;> rfl

/-- A command that the encoder builds decodes by the layout of its id (R127, R128). -/
theorem decodeCommand_commandOf (p : Params) (mods : BitVec 3) (id : BitVec 5) (h : List Byte) (n : Nat)
    (hn : headerLen id = some n) : decode p (commandOf mods id h) = decodeHeader id mods h := by
  simp [commandOf, decode, decodeCommand, hn]

/-! ### What a header that decodes is (R128) -/

theorem header0_ok {h : List Byte} {k i : Instr} (e : header0 h k = .ok i) : h = [] ∧ i = k := by
  unfold header0 at e
  split at e
  · exact ⟨rfl, (Decoded.ok.inj e).symm⟩
  · cases e

theorem header1_ok {h : List Byte} {k : Byte → Instr} {i : Instr} (e : header1 h k = .ok i) :
    ∃ h0, h = [h0] ∧ i = k h0 := by
  unfold header1 at e
  split at e
  · exact ⟨_, rfl, (Decoded.ok.inj e).symm⟩
  · cases e

theorem headerAddr_ok {h : List Byte} {k : Word → Instr} {i : Instr} (e : headerAddr h k = .ok i) :
    ∃ h0 h1, h = [h0, h1] ∧ i = k (le16 h0 h1) := by
  unfold headerAddr at e
  split at e
  · exact ⟨_, _, rfl, (Decoded.ok.inj e).symm⟩
  · cases e

theorem headerAddrByte_ok {h : List Byte} {k : Word → Byte → Instr} {i : Instr} (e : headerAddrByte h k = .ok i) :
    ∃ h0 h1 h2, h = [h0, h1, h2] ∧ i = k (le16 h0 h1) h2 := by
  unfold headerAddrByte at e
  split at e
  · exact ⟨_, _, _, rfl, (Decoded.ok.inj e).symm⟩
  · cases e

theorem headerAddrLen_ok {h : List Byte} {k : Word → Word → Instr} {i : Instr} (e : headerAddrLen h k = .ok i) :
    ∃ h0 h1 h2 h3, h = [h0, h1, h2, h3] ∧ i = k (le16 h0 h1) (le16 h2 h3) := by
  unfold headerAddrLen at e
  split at e
  · exact ⟨_, _, _, _, rfl, (Decoded.ok.inj e).symm⟩
  · cases e

theorem header16_ok {h : List Byte} {k : List Byte → Instr} {i : Instr} (e : header16 h k = .ok i) :
    h.length = 16 ∧ i = k h := by
  unfold header16 at e
  split at e
  · exact ⟨by assumption, (Decoded.ok.inj e).symm⟩
  · cases e

/-- A header decodes only by the row of its id (R128). -/
theorem decodeHeader_ok {id : BitVec 5} {mods : BitVec 3} {h : List Byte} {i : Instr}
    (e : decodeHeader id mods h = .ok i) :
    (id.toNat = 0x01 ∧ header16 h (.ping mods) = .ok i) ∨ (id.toNat = 0x02 ∧ header16 h (.unlock mods) = .ok i) ∨
    (id.toNat = 0x03 ∧ header1 h (.setMode mods) = .ok i) ∨ (id.toNat = 0x04 ∧ header0 h (.getMode mods) = .ok i) ∨
    (id.toNat = 0x05 ∧ headerAddr h (.read mods) = .ok i) ∨
    (id.toNat = 0x06 ∧ headerAddrLen h (.readBurst mods) = .ok i) ∨
    (id.toNat = 0x07 ∧ headerAddrByte h (.write mods) = .ok i) ∨
    (id.toNat = 0x08 ∧ headerAddrLen h (.writeBurst mods) = .ok i) ∨
    (id.toNat = 0x09 ∧ headerAddrByte h (.pollFlashData mods) = .ok i) ∨
    (id.toNat = 0x0A ∧ header1 h (.setFlashWriteSequence mods) = .ok i) ∨
    (id.toNat = 0x0B ∧ headerAddrLen h (.flashBurst mods) = .ok i) ∨
    (id.toNat = 0x1D ∧ header0 h (.diagnostics mods) = .ok i) ∨ (id.toNat = 0x1E ∧ header1 h (.reset mods) = .ok i) ∨
    (id.toNat = 0x1F ∧ header0 h (.identify mods) = .ok i) := by
  unfold decodeHeader at e
  generalize id.toNat = n at e ⊢
  split at e
  case h_15 => cases e
  all_goals simp [e]

end Sys2Proof
end

