-- ==== Sys2Proof/Laws/PerInstr.lean ====
section
/-! SUPPORT. For each operation: decoding its encoding gives it back (30_encoding.md R110-R133). -/

set_option Elab.async false

namespace Sys2Proof.Laws.RoundTrip

/-- Decode and encode agree on an operation, with parameters of R8's legal values. -/
def Statement (i : Instr) : Prop :=
  ∀ p : Params, p.legal = true → i.wellFormed = true → decode p (encode p i) = .ok i

theorem evSe0Exit : Statement (.evSe0Exit) := by
  intro p hp hw
  simp [encode, lineOf, decode, decodeLine, decodeEvent, decodeBare]

theorem evBusReset : Statement (.evBusReset) := by
  intro p hp hw
  simp [encode, lineOf, decode, decodeLine, decodeEvent, decodeBare]

theorem evIdle : Statement (.evIdle) := by
  intro p hp hw
  simp [encode, lineOf, decode, decodeLine, decodeEvent, decodeBare]

theorem evActivity : Statement (.evActivity) := by
  intro p hp hw
  simp [encode, lineOf, decode, decodeLine, decodeEvent, decodeBare]

theorem evError (classes : BitVec 6) : Statement (.evError classes) := by
  intro p hp hw
  have h : classes ≠ 0#6 := by simpa [Instr.wellFormed] using hw
  simp [encode, lineOf, decode, decodeLine, decodeEvent, decodeNoPayload, h]

theorem evTrnSetup (packet : List Byte) : Statement (.evTrnSetup packet) := by
  intro p hp hw
  have h : packet.length = 8 := by simpa [Instr.wellFormed] using hw
  simp [encode, decode, decodeLine, decodeEvent, h]

theorem evTrnOut (ep : Endpoint) (half : Bit) (data : List Byte) : Statement (.evTrnOut ep half data) := by
  intro p hp hw
  obtain ⟨a, b, c⟩ := trnArg_fields (p.epNumber ep) half
  simp only [Instr.wellFormed, Bool.and_eq_true, decide_eq_true_eq] at hw
  have hl : (BitVec.ofNat 8 data.length).toNat = data.length := by
    rw [BitVec.toNat_ofNat]; exact Nat.mod_eq_of_lt (by omega)
  simp [-BitVec.getLsbD_eq_getElem, encode, decode, decodeLine, decodeEvent, trnArg, decodeTrnArg, a, b, c, endpoint_epNumber hp, hw.1,
    decodeCounted, hl, hw.2, -BitVec.toNat_ofNat, -BitVec.ofNat_eq_ofNat]

theorem evTrnIn (ep : Endpoint) (half : Bit) : Statement (.evTrnIn ep half) := by
  intro p hp hw
  obtain ⟨a, b, c⟩ := trnArg_fields (p.epNumber ep) half
  have h : halfLegal ep half = true := by simpa [Instr.wellFormed] using hw
  simp [-BitVec.getLsbD_eq_getElem, encode, lineOf, decode, decodeLine, decodeEvent, trnArg, decodeTrnArg, a, b, c, endpoint_epNumber hp, h,
    decodeNoPayload]

theorem attach : Statement (.attach) := by
  intro p hp hw
  simp [encode, lineOf, decode, decodeLine, decodeFirmware, decodeBare]

theorem acqRx : Statement (.acqRx) := by
  intro p hp hw
  simp [encode, lineOf, decode, decodeLine, decodeFirmware, decodeBare]

theorem rxRead (index : BitVec 6) : Statement (.rxRead index) := by
  intro p hp hw
  simp only [encode, lineOf, decode, decodeLine, wordGroup_mkWord, wordKind_mkWord, wordArg_mkWord]
  simp [decodeFirmware, decodeNoPayload, toNat_low6, -BitVec.toNat_append]

theorem rxTake (count : Byte) : Statement (.rxTake count) := by
  intro p hp hw
  have h : count.toNat ≤ 64 := by simpa [Instr.wellFormed] using hw
  simp [encode, lineOf, decode, decodeLine, decodeFirmware, decodeNoPayload, h]

theorem acqTx : Statement (.acqTx) := by
  intro p hp hw
  simp [encode, lineOf, decode, decodeLine, decodeFirmware, decodeBare]

theorem txPut (byte : Byte) : Statement (.txPut byte) := by
  intro p hp hw
  simp [encode, lineOf, decode, decodeLine, decodeFirmware, decodeNoPayload]

theorem flush : Statement (.flush) := by
  intro p hp hw
  simp [encode, lineOf, decode, decodeLine, decodeFirmware, decodeBare]

theorem isActive : Statement (.isActive) := by
  intro p hp hw
  simp [encode, lineOf, decode, decodeLine, decodeFirmware, decodeBare]

theorem csEnter : Statement (.csEnter) := by
  intro p hp hw
  simp [encode, lineOf, decode, decodeLine, decodeFirmware, decodeBare]

theorem csExit : Statement (.csExit) := by
  intro p hp hw
  simp [encode, lineOf, decode, decodeLine, decodeFirmware, decodeBare]

theorem sleep : Statement (.sleep) := by
  intro p hp hw
  simp [encode, lineOf, decode, decodeLine, decodeFirmware, decodeBare]

theorem resetExec : Statement (.resetExec) := by
  intro p hp hw
  simp [encode, lineOf, decode, decodeLine, decodeFirmware, decodeBare]

theorem irq : Statement (.irq) := by
  intro p hp hw
  simp [encode, lineOf, decode, decodeLine, decodeSched, decodeBare]

theorem watchdog : Statement (.watchdog) := by
  intro p hp hw
  simp [encode, lineOf, decode, decodeLine, decodeSched, decodeBare]

theorem getStatus (q : SetupFields) : Statement (.getStatus q) := by
  intro p hp hw
  simp [encode, decodeSetup_packetOf, decodeStandard]

theorem setAddress (q : SetupFields) : Statement (.setAddress q) := by
  intro p hp hw
  simp [encode, decodeSetup_packetOf, decodeStandard]

theorem getDescriptor (q : SetupFields) : Statement (.getDescriptor q) := by
  intro p hp hw
  simp [encode, decodeSetup_packetOf, decodeStandard]

theorem getConfiguration (q : SetupFields) : Statement (.getConfiguration q) := by
  intro p hp hw
  simp [encode, decodeSetup_packetOf, decodeStandard]

theorem setConfiguration (q : SetupFields) : Statement (.setConfiguration q) := by
  intro p hp hw
  simp [encode, decodeSetup_packetOf, decodeStandard]

theorem getInterface (q : SetupFields) : Statement (.getInterface q) := by
  intro p hp hw
  simp [encode, decodeSetup_packetOf, decodeStandard]

theorem setInterface (q : SetupFields) : Statement (.setInterface q) := by
  intro p hp hw
  simp [encode, decodeSetup_packetOf, decodeStandard]

theorem sendEncapsulatedCommand (q : SetupFields) : Statement (.sendEncapsulatedCommand q) := by
  intro p hp hw
  simp [encode, decodeSetup_packetOf, decodeClass]

theorem getEncapsulatedResponse (q : SetupFields) : Statement (.getEncapsulatedResponse q) := by
  intro p hp hw
  simp [encode, decodeSetup_packetOf, decodeClass]

theorem setLineCoding (q : SetupFields) : Statement (.setLineCoding q) := by
  intro p hp hw
  simp [encode, decodeSetup_packetOf, decodeClass]

theorem getLineCoding (q : SetupFields) : Statement (.getLineCoding q) := by
  intro p hp hw
  simp [encode, decodeSetup_packetOf, decodeClass]

theorem setControlLineState (q : SetupFields) : Statement (.setControlLineState q) := by
  intro p hp hw
  simp [encode, decodeSetup_packetOf, decodeClass]

theorem vendorReset (q : SetupFields) : Statement (.vendorReset q) := by
  intro p hp hw
  simp [encode, decodeSetup_packetOf, decodeVendor]

theorem vendorIdentify (q : SetupFields) : Statement (.vendorIdentify q) := by
  intro p hp hw
  simp [encode, decodeSetup_packetOf, decodeVendor, Ne.symm (legal_fields hp).2.2.2]

theorem ping (mods : BitVec 3) (data : List Byte) : Statement (.ping mods data) := by
  intro p hp hw
  have hl : data.length = 16 := by simpa [Instr.wellFormed] using hw
  exact (decodeCommand_commandOf p mods 0x01#5 data 16 rfl).trans (if_pos hl)

theorem unlock (mods : BitVec 3) (key : List Byte) : Statement (.unlock mods key) := by
  intro p hp hw
  have hl : key.length = 16 := by simpa [Instr.wellFormed] using hw
  exact (decodeCommand_commandOf p mods 0x02#5 key 16 rfl).trans (if_pos hl)

theorem setMode (mods : BitVec 3) (mode : Byte) : Statement (.setMode mods mode) := by
  intro p hp hw
  have h : decodeHeader 0x03#5 mods [mode] =
      .ok (.setMode mods mode) := rfl
  exact (decodeCommand_commandOf p mods 0x03#5 _ 1 rfl).trans h

theorem getMode (mods : BitVec 3) : Statement (.getMode mods) := by
  intro p hp hw
  have h : decodeHeader 0x04#5 mods [] =
      .ok (.getMode mods) := rfl
  exact (decodeCommand_commandOf p mods 0x04#5 _ 0 rfl).trans h

theorem read (mods : BitVec 3) (addr : Word) : Statement (.read mods addr) := by
  intro p hp hw
  have h : decodeHeader 0x05#5 mods [loByte addr, hiByte addr] =
      .ok (.read mods (le16 (loByte addr) (hiByte addr))) := rfl
  simp only [le16_lo_hi] at h
  exact (decodeCommand_commandOf p mods 0x05#5 _ 2 rfl).trans h

theorem readBurst (mods : BitVec 3) (addr : Word) (len : Word) : Statement (.readBurst mods addr len) := by
  intro p hp hw
  have h : decodeHeader 0x06#5 mods [loByte addr, hiByte addr, loByte len, hiByte len] =
      .ok (.readBurst mods (le16 (loByte addr) (hiByte addr)) (le16 (loByte len) (hiByte len))) := rfl
  simp only [le16_lo_hi] at h
  exact (decodeCommand_commandOf p mods 0x06#5 _ 4 rfl).trans h

theorem write (mods : BitVec 3) (addr : Word) (data : Byte) : Statement (.write mods addr data) := by
  intro p hp hw
  have h : decodeHeader 0x07#5 mods [loByte addr, hiByte addr, data] =
      .ok (.write mods (le16 (loByte addr) (hiByte addr)) data) := rfl
  simp only [le16_lo_hi] at h
  exact (decodeCommand_commandOf p mods 0x07#5 _ 3 rfl).trans h

theorem writeBurst (mods : BitVec 3) (addr : Word) (len : Word) : Statement (.writeBurst mods addr len) := by
  intro p hp hw
  have h : decodeHeader 0x08#5 mods [loByte addr, hiByte addr, loByte len, hiByte len] =
      .ok (.writeBurst mods (le16 (loByte addr) (hiByte addr)) (le16 (loByte len) (hiByte len))) := rfl
  simp only [le16_lo_hi] at h
  exact (decodeCommand_commandOf p mods 0x08#5 _ 4 rfl).trans h

theorem pollFlashData (mods : BitVec 3) (addr : Word) (polarity : Byte) : Statement (.pollFlashData mods addr polarity) := by
  intro p hp hw
  have h : decodeHeader 0x09#5 mods [loByte addr, hiByte addr, polarity] =
      .ok (.pollFlashData mods (le16 (loByte addr) (hiByte addr)) polarity) := rfl
  simp only [le16_lo_hi] at h
  exact (decodeCommand_commandOf p mods 0x09#5 _ 3 rfl).trans h

theorem setFlashWriteSequence (mods : BitVec 3) (n : Byte) : Statement (.setFlashWriteSequence mods n) := by
  intro p hp hw
  have h : decodeHeader 0x0A#5 mods [n] =
      .ok (.setFlashWriteSequence mods n) := rfl
  exact (decodeCommand_commandOf p mods 0x0A#5 _ 1 rfl).trans h

theorem flashBurst (mods : BitVec 3) (addr : Word) (len : Word) : Statement (.flashBurst mods addr len) := by
  intro p hp hw
  have h : decodeHeader 0x0B#5 mods [loByte addr, hiByte addr, loByte len, hiByte len] =
      .ok (.flashBurst mods (le16 (loByte addr) (hiByte addr)) (le16 (loByte len) (hiByte len))) := rfl
  simp only [le16_lo_hi] at h
  exact (decodeCommand_commandOf p mods 0x0B#5 _ 4 rfl).trans h

theorem diagnostics (mods : BitVec 3) : Statement (.diagnostics mods) := by
  intro p hp hw
  have h : decodeHeader 0x1D#5 mods [] =
      .ok (.diagnostics mods) := rfl
  exact (decodeCommand_commandOf p mods 0x1D#5 _ 0 rfl).trans h

theorem reset (mods : BitVec 3) (magic : Byte) : Statement (.reset mods magic) := by
  intro p hp hw
  have h : decodeHeader 0x1E#5 mods [magic] =
      .ok (.reset mods magic) := rfl
  exact (decodeCommand_commandOf p mods 0x1E#5 _ 1 rfl).trans h

theorem identify (mods : BitVec 3) : Statement (.identify mods) := by
  intro p hp hw
  have h : decodeHeader 0x1F#5 mods [] =
      .ok (.identify mods) := rfl
  exact (decodeCommand_commandOf p mods 0x1F#5 _ 0 rfl).trans h

end Sys2Proof.Laws.RoundTrip
end

