-- ==== Sys2Proof/Safety.lean ====
section
/-! DEFINITION. What counts as a well-kept state and a safe run, in the terms the statements use: the invariants that the
rules state or imply, each a decidable proposition on one state, and the classes of faults of 60_exceptions.md R382. -/

namespace Sys2Proof.Machine

/-! ### Memory and sizes -/

/-- The seven descriptors (10_state.md R37). -/
abbrev allDescs : List DescId :=
  [.ep0Out, .ep0In, .notifIn, .bulkOut false, .bulkOut true, .bulkIn false, .bulkIn true]

/-- The records keep the sizes of 10_state.md R54, R58, R59: 7 line-coding bytes, 16 header bytes, 16 write-sequence
records of which at most 16 are in use. -/
abbrev State.recordsSized (s : State) : Prop :=
  s.lc.length = 7 ∧ s.sess.hdr.length = 16 ∧ s.flashseq.recs.length = 16 ∧ s.flashseq.count ≤ 16

/-- The bytes of a receive slice lie in its half (00_scope.md R11). -/
abbrev State.rxSliceInHalf (s : State) : Prop := ∀ x ∈ s.rx.slice, x.off + x.len ≤ 64

/-- `fill + rem = 64` (00_scope.md R11, 10_state.md R51). -/
abbrev State.txSliceFull (s : State) : Prop := ∀ x ∈ s.tx.slice, x.fill + x.rem = 64

/-- Every access stays inside its buffer (20_memory.md R81): once ATTACH has written the descriptors no count is above
the capacity of its buffer (10_state.md R38, R40), the slices lie in their halves, and the pipe is armed only on an
attached device. -/
abbrev State.inBounds (s : State) : Prop :=
  (s.dev.state ≠ .detached → ∀ d ∈ allDescs, (s.desc d).count.toNat ≤ capacity s.cfg d) ∧
  s.rxSliceInHalf ∧ s.txSliceFull ∧ (s.pipeArmed = true → s.dev.state ≠ .detached)

/-! ### The interrupt mask and the sleep -/

/-- The mask is the one that the state of the connection gives (10_state.md R31, R32; 60_exceptions.md R385): 0x00 before
ATTACH, 0x04 with 0x1B saved while suspended, 0x1B otherwise. -/
abbrev State.maskLegal (s : State) : Prop :=
  if s.dev.state = .detached then s.dev.suspended = false ∧ s.irq.mask = 0x00#8
  else if s.dev.suspended = true then s.irq.mask = 0x04#8 ∧ s.irq.savedMask = 0x1B#8
  else s.irq.mask = 0x1B#8

/-- The main loop sleeps "only while the device is USB-suspended" (60_exceptions.md R396). -/
abbrev State.sleepLegal (s : State) : Prop := s.main.asleep = true → s.dev.suspended = true

/-! ### Endpoint 0 and the interrupt endpoint -/

/-- A completion of `bd[0][OUT]`: a SETUP or an OUT of endpoint 0. -/
abbrev Completion.ofEp0Out (e : Completion) : Prop := e.ep = .ep0 ∧ e.kind ≠ .inp

/-- Endpoint 0 is ready for the next SETUP, or a completion of its OUT descriptor is waiting
(41_control_transfer.md R222, 70_reset_and_hazards.md R440). -/
abbrev State.ep0Ready (s : State) : Prop :=
  s.dev.state ≠ .detached → (s.desc .ep0Out).own = .engine ∨ ∃ e ∈ s.irq.trn, e.ofEp0Out

/-- The interrupt endpoint is "permanently stalled" (40_device_events.md R168), in the state of R167. -/
abbrev State.notifStalled (s : State) : Prop :=
  s.dev.state ≠ .detached → s.desc .notifIn = { own := .engine, dts := false, stall := true, count := 0#10 }

/-! ### The bulk pipe -/

/-- The halves of the queued bulk completions of a kind, oldest first. -/
def State.bulkQueue (s : State) (k : TrnKind) : List Bit :=
  (s.irq.trn.filter fun e => decide (e.kind = k) && decide (e.ep = .bulk)).map Completion.half

/-- The receive parities of 10_state.md R53: with k halves not busy, k = 0 or 2 gives eng = next, and k = 1 gives that
half = next and eng = next ^ 1. -/
abbrev Rx.parity (r : Rx) : Prop :=
  if r.busy.even = r.busy.odd then r.eng = r.next else r.busy.get r.next = false ∧ r.eng = !r.next

/-- The transmit parities of 10_state.md R53: with k halves busy, k = 0 or 2 gives eng = next, and k = 1 gives that half =
eng and next = eng ^ 1. -/
abbrev Tx.parity (x : Tx) : Prop :=
  if x.busy.even = x.busy.odd then x.eng = x.next else x.busy.get x.eng = true ∧ x.next = !x.eng

/-- A receive slice lies over the half `rx.next`, whose busy flag is false (10_state.md R52, 42_bulk_pipe.md R272). -/
abbrev Rx.sliceFree (r : Rx) : Prop := ∀ x ∈ r.slice, x.half = r.next ∧ r.busy.get r.next = false

/-- A transmit slice lies over the half `tx.next`, whose busy flag is false (10_state.md R52, 42_bulk_pipe.md R280). -/
abbrev Tx.sliceFree (x : Tx) : Prop := ∀ y ∈ x.slice, y.half = x.next ∧ x.busy.get x.next = false

/-- The queued completions of a direction whose next half is `eng`: they alternate from `eng`, and there is at most one for
each half. -/
abbrev queueFrom (eng : Bit) (q : List Bit) : Prop := q = [] ∨ q = [eng] ∨ q = [eng, !eng]

/-- The end of 10_state.md R53 for one half: busy is "ENGINE-owned or has its completion in irq.trn", never both. -/
abbrev halfLinked (busy : Bool) (own : Owner) (queued : Bool) : Prop :=
  busy = (decide (own = .engine) || queued) ∧ ¬ (own = .engine ∧ queued = true)

/-- The receive direction agrees with the engine (10_state.md R53, R64): each half, the queue, and, unless a bus reset is
waiting to be handled, the engine's own pointer. -/
abbrev State.rxLinked (s : State) : Prop :=
  queueFrom s.rx.eng (s.bulkQueue .out) ∧
  halfLinked s.rx.busy.even (s.desc (.bulkOut false)).own ((s.bulkQueue .out).contains false) ∧
  halfLinked s.rx.busy.odd (s.desc (.bulkOut true)).own ((s.bulkQueue .out).contains true) ∧
  (s.irq.pending.reset = false →
    s.sie.ppbiOut = if (s.bulkQueue .out).length = 1 then !s.rx.eng else s.rx.eng)

/-- The transmit direction agrees with the engine (10_state.md R53, R64). -/
abbrev State.txLinked (s : State) : Prop :=
  queueFrom s.tx.eng (s.bulkQueue .inp) ∧
  halfLinked s.tx.busy.even (s.desc (.bulkIn false)).own ((s.bulkQueue .inp).contains false) ∧
  halfLinked s.tx.busy.odd (s.desc (.bulkIn true)).own ((s.bulkQueue .inp).contains true) ∧
  (s.irq.pending.reset = false →
    s.sie.ppbiIn = if (s.bulkQueue .inp).length = 1 then !s.tx.eng else s.tx.eng)

/-- The pipe while armed. -/
abbrev State.pipeRunning (s : State) : Prop :=
  s.dev.state ≠ .detached ∧ s.rx.parity ∧ s.tx.parity ∧ s.rx.sliceFree ∧ s.tx.sliceFree ∧ s.rxLinked ∧ s.txLinked

/-- The pipe while disarmed (42_bulk_pipe.md R287): nothing busy, no slice, nothing owed, no bulk completion queued, and
on an attached device every bulk descriptor stalled (40_device_events.md R166, 42_bulk_pipe.md R286). -/
abbrev State.pipeIdle (s : State) : Prop :=
  s.rx = { busy := { even := false, odd := false }, next := false, eng := false, slice := none } ∧
  s.tx = { busy := { even := false, odd := false }, next := false, eng := false, slice := none, zlpOwed := false } ∧
  s.bulkQueue .out = [] ∧ s.bulkQueue .inp = [] ∧
  (s.dev.state ≠ .detached → (s.desc (.bulkOut false)).stall = true ∧ (s.desc (.bulkOut true)).stall = true ∧
    (s.desc (.bulkIn false)).stall = true ∧ (s.desc (.bulkIn true)).stall = true)

/-- The records that engine acts can queue (40_device_events.md R163): SETUP of endpoint 0, OUT and IN of endpoint 0 and of
the bulk endpoint. -/
abbrev Completion.legal (e : Completion) : Prop := e.ep ≠ .notif ∧ (e.kind = .setup → e.ep = .ep0)

/-- The pipe agrees with its descriptors, the queued completions and the engine. -/
abbrev State.pipeLinked (s : State) : Prop :=
  (if s.pipeArmed = true then s.pipeRunning else s.pipeIdle) ∧ ∀ e ∈ s.irq.trn, e.legal

/-! ### The lock (collateral) -/

/-- The places of the main loop's program that belong to a lock-required command's stream. -/
def RxUse.streams : RxUse → Bool
  | .id | .header => false
  | .writeBurst | .writeSequence | .flashBurst => true

/-- The place belongs to a lock-required command's stream (43_command_protocol.md R335, R337, R340, R341). -/
def MainPoint.streams : MainPoint → Bool
  | .rxAcq use | .rxAcqAgain use | .rxRead use | .rxTake use _ => use.streams
  | .burstAcq | .burstPut _ => true
  | .attach | .top | .resetExec | .sleep | .emitAcq _ | .emitPut _ | .flush => false

/-- While the session is locked no lock-required command is in progress (43_command_protocol.md R324, R346, R348). -/
abbrev State.lockSafe (s : State) : Prop :=
  s.sess.unlocked = false →
    s.sess.poll = none ∧ s.main.point.streams = false ∧
    (s.sess.phase = .awaitId ∨ lockRequired (commandId s.sess.cmd) = false)

/-! ### Faults -/

/-- The caller's errors of R382 (0x81, 0x82, 0x85). -/
def Fault.byCaller : Fault → Bool
  | .noSlice | .sliceRange _ _ | .csUnbalanced => true
  | .parityDesync _ _ _ | .completionUnarmed _ _ | .unexpectedCompletion _ | .reconfigInFlight | .noSuchByte _ _ => false

/-- The faults that come from the engine's side (R382: 0x83, 0x84, 0x86, 0x87). -/
def Fault.byEngine : Fault → Bool
  | .parityDesync _ _ _ | .completionUnarmed _ _ | .unexpectedCompletion _ | .reconfigInFlight => true
  | .noSlice | .sliceRange _ _ | .csUnbalanced | .noSuchByte _ _ => false

/-- A step is safe when it does not stop with a fault of the engine's side or of the model. -/
def Result.safe : Result → Bool
  | .next _ => true
  | .fault x => x.byCaller
  | .refused _ => true

end Sys2Proof.Machine
end

