-- ==== Sys2Proof/Certificates/Slice0/Obligations.lean ====
section
/-! DEFINITION. The statements for the provers, each from rules of spec/, with the few notions they share. A next state is
written as a record update, so that every field the update does not name is the one before; where bytes are stored, a
second clause says what every byte of every buffer reads as. -/

/-! ### Notions the statements share -/

namespace Sys2Proof.Statements

open Sys2Proof.Machine

/-- The parameter values of 95_test_vectors.md part 0, with two values for its symbols VR and VI. -/
def vectorParams : Params :=
  { ep0Size := .s64, epNotif := 1#4, epBulk := 2#4, vreqReset := 0x52#8, vreqIdentify := 0x49#8,
    descDevice := List.replicate 18 0xD0#8, descConfig := List.replicate 67 0xC0#8, descString0 := [0x04#8],
    descString1 := [], descString2 := [0x02#8], blVersion := 0x0102#16, fwMinor := 0x03#8, fwMajor := 0x01#8,
    errCtrBits := 8, settle := 0, unlockKey := List.replicate 16 0x4B#8, modeMask := 0x03#8 }

/-- The words that 30_encoding.md R119, R121 and R123 refuse, in terms of the number of the word alone; with the half bit of
endpoint 0 (R119, log 15). -/
def refusedWord (p : Params) (w : Word) : Prop :=
  let group := w.toNat / 4096
  let kind := w.toNat / 256 % 16
  let arg := w.toNat % 256
  3 ≤ group ∨
  (group = 0 ∧
    (kind = 0 ∨ 9 ≤ kind ∨ (kind ∈ [1, 2, 3, 4, 6] ∧ arg ≠ 0) ∨ (kind = 5 ∧ (arg = 0 ∨ 64 ≤ arg)) ∨
      (kind ∈ [7, 8] ∧
        (arg / 16 ∉ [0, p.epNotif.toNat, p.epBulk.toNat] ∨ arg / 2 % 8 ≠ 0 ∨ (arg / 16 = 0 ∧ arg % 2 = 1))))) ∨
  (group = 1 ∧
    (12 ≤ kind ∨ (kind ∉ [2, 3, 5] ∧ arg ≠ 0) ∨ (kind = 2 ∧ 64 ≤ arg) ∨ (kind = 3 ∧ 65 ≤ arg))) ∨
  (group = 2 ∧ (2 ≤ kind ∨ arg ≠ 0))

/-- `taken(s)` of 60_exceptions.md R384, with the mask bits of 10_state.md R31. -/
def taken (s : State) : Source → Prop
  | .activity => s.irq.pending.activity = true ∧ s.irq.mask.getLsbD 2 = true
  | .reset => s.irq.pending.reset = true ∧ s.irq.mask.getLsbD 0 = true
  | .idle => s.irq.pending.idle = true ∧ s.irq.mask.getLsbD 4 = true
  | .error => s.irq.pending.error = true ∧ s.irq.mask.getLsbD 1 = true
  | .trn => s.irq.trn ≠ [] ∧ s.irq.mask.getLsbD 3 = true

/-- The IRQ step is enabled and takes the source: it is taken and none before it in the order ACTIVITY, RESET, IDLE, ERROR,
TRN is (60_exceptions.md R384, R386). -/
def irqTakes (s : State) (src : Source) : Prop :=
  s.irq.enable = true ∧ s.dev.state ≠ .detached ∧ taken s src ∧
  match src with
  | .activity => True
  | .reset => ¬ taken s .activity
  | .idle => ¬ taken s .activity ∧ ¬ taken s .reset
  | .error => ¬ taken s .activity ∧ ¬ taken s .reset ∧ ¬ taken s .idle
  | .trn => ¬ taken s .activity ∧ ¬ taken s .reset ∧ ¬ taken s .idle ∧ ¬ taken s .error

/-- The endpoint-0 packet size as a descriptor count. -/
def ep0Count (s : State) : BitVec 10 := BitVec.ofNat 10 s.cfg.ep0Size.bytes

/-- A descriptor in the stalled state of 40_device_events.md R167. -/
def stalledBd (n : BitVec 10) : Bd := { own := .engine, dts := false, stall := true, count := n }

/-- A descriptor armed with count, toggle and no stall (20_memory.md R86). -/
def armedBd (n : BitVec 10) (dts : Bit) : Bd := { own := .engine, dts := dts, stall := false, count := n }

/-- What the bytes of every buffer read as after `bytes` were stored in the buffer of `d`, from its first byte. -/
def storedAt (s t : State) (d : DescId) (bytes : List Byte) : Prop :=
  ∀ e i, i < 64 → t.readBuf e i = if e = d ∧ i < bytes.length then bytes.getD i 0#8 else s.readBuf e i

/-- The state after `status_in()` at the end of a SETUP step (41_control_transfer.md R201, R205). -/
def statusArmed (s : State) : State :=
  { s with
    bd := { s.bd with ep0In := armedBd 0#10 true, ep0Out := armedBd (ep0Count s) false }
    ctl := Ctl.idle
    ret := .none }

/-- The state after `stall_ep0()` at the end of a SETUP step (41_control_transfer.md R204). -/
def ep0Stalled (s : State) : State :=
  { s with
    bd := { s.bd with ep0In := stalledBd 0#10, ep0Out := stalledBd (ep0Count s) }
    ctl := Ctl.idle
    ret := .none }

/-- The state `t` after a SETUP step has started an IN data stage from `bytes` (41_control_transfer.md R201, R203, R224):
n bytes are to be sent, k of them in the first packet. -/
def inStarted (s : State) (kind : SrcKind) (src : Src) (bytes : List Byte) (wLength : Word) (t : State) : Prop :=
  let n := min bytes.length wLength.toNat
  let k := min n s.cfg.ep0Size.bytes
  t = { s with
        buf := t.buf
        bd := { s.bd with ep0In := armedBd (BitVec.ofNat 10 k) true, ep0Out := armedBd (ep0Count s) true }
        ctl := { dataStage := true, dirIn := true, srcKind := kind, src := src, remaining := BitVec.ofNat 16 (n - k),
                 offset := BitVec.ofNat 16 k, toggle := false,
                 inDone := decide (k < s.cfg.ep0Size.bytes) || decide (n - k = 0), pendingAddress := none,
                 dest := none }
        ret := .none } ∧
  storedAt s t .ep0In (bytes.take k)

/-- The state after `tx_arm(h, n)` and `tx_try_acquire()` (42_bulk_pipe.md R280, R277). -/
def txArmed (s : State) (h : Bit) (n : Nat) (r : Ret) : State :=
  { s with
    bd := s.bd.put (.bulkIn h) (armedBd (BitVec.ofNat 10 n) h)
    tx := { busy := s.tx.busy.put h true
            next := !s.tx.next
            eng := s.tx.eng
            slice := if (s.tx.busy.put h true).get (!s.tx.next) then none
                     else some { half := !s.tx.next, fill := 0, rem := 64 }
            zlpOwed := decide (n = 64) }
    ret := r }

/-- A command begins: its header is complete, or it is read at a command boundary and the lock lets it through
(43_command_protocol.md R324, R326). -/
def begins (s : State) (id : BitVec 5) : Prop :=
  s.sess.phase = .header ∨ (s.sess.phase = .awaitId ∧ (lockRequired id = false ∨ s.sess.unlocked = true))

/-- The session when a command begins (43_command_protocol.md R326, R58). -/
def entered (s : State) (mods : BitVec 3) (id : BitVec 5) (header : List Byte) : Sess :=
  { s.sess with
    cmd := mods ++ id, hdr := header ++ s.sess.hdr.drop header.length, hdrFill := header.length,
    hdrNeed := header.length, phase := .exec, step := 0 }

/-- The session when a command has ended (43_command_protocol.md R329). -/
def ended (x : Sess) : Sess :=
  { x with phase := .awaitId, cmd := 0#8, hdrFill := 0, hdrNeed := 0, addr := 0#16, count := 0#16, step := 0, out := [],
           poll := none }

/-- The main loop's program goes on at a place (log 13). -/
def goesTo (s : State) (p : MainPoint) : State := { s with main := { s.main with point := p } }

/-- The firmware call that stands at each place of the main loop's program (43_command_protocol.md R321-R323, R328,
R335). -/
def callAt : MainPoint → Instr
  | .attach => .attach
  | .top => .isActive
  | .resetExec => .resetExec
  | .sleep => .sleep
  | .rxAcq _ | .rxAcqAgain _ => .acqRx
  | .rxRead _ => .rxRead 0#6
  | .rxTake _ _ => .rxTake 1#8
  | .emitAcq _ | .burstAcq => .acqTx
  | .emitPut v | .burstPut v => .txPut v
  | .flush => .flush

/-- A stream step up to its first call (43_command_protocol.md R335, R337, R340, R341): at `sess.count = 0` the command
ends, but FLASH_BURST first sends [00 00]; otherwise READ_BURST asks for space and the others for a byte. -/
def streamed (s : State) : State :=
  let id := s.sess.cmd.extractLsb' 0 5
  if id = 0x0B#5 then
    if s.sess.count = 0#16 then
      goesTo { s with sess := { s.sess with out := [0x00#8, 0x00#8], step := 0 } } (.emitAcq 0x00#8)
    else goesTo s (.rxAcq .flashBurst)
  else if s.sess.count = 0#16 then goesTo { s with sess := ended s.sess } (.rxAcq .id)
  else if id = 0x06#5 then goesTo s .burstAcq
  else if id = 0x08#5 then goesTo s (.rxAcq .writeBurst)
  else if id = 0x0A#5 then goesTo s (.rxAcq .writeSequence)
  else goesTo { s with sess := ended s.sess } (.rxAcq .id)

/-- `dispatch_step()` up to its next firmware call (43_command_protocol.md R322, R328): an id or a header byte is wanted, a
flash poll or the end of the output stops the dispatcher or the command, and otherwise the next output byte or the
stream goes on. -/
def dispatched (s : State) : State :=
  match s.sess.phase with
  | .awaitId => goesTo s (.rxAcq .id)
  | .header => goesTo s (.rxAcq .header)
  | .exec =>
    if s.sess.poll ≠ none then goesTo s .flush
    else if s.sess.out = [] then streamed s
    else if s.sess.step < s.sess.out.length then goesTo s (.emitAcq (s.sess.out.getD s.sess.step 0#8))
    else goesTo { s with sess := ended s.sess } (.rxAcq .id)

/-- Where `rx_byte()` goes on after an ACQ_RX that returned `r` (43_command_protocol.md R323): to `empty` on a slice of
length 0, to the read on a longer one, to the FLUSH of R322 without a slice. -/
def afterAcqRx (r : Ret) (empty : MainPoint) (use : RxUse) : MainPoint :=
  match r with
  | .acquired true 0 => empty
  | .acquired true _ => .rxRead use
  | _ => .flush

/-- Where `tx_byte(v)` goes on after an ACQ_TX that returned `r` (43_command_protocol.md R328). -/
def afterAcqTx (r : Ret) (v : Byte) : MainPoint :=
  match r with
  | .acquired true _ => .emitPut v
  | _ => .flush

/-- The state after the RX_TAKE(1) of `rx_byte()` from the slice `x` (42_bulk_pipe.md R274). -/
def tookByte (s : State) (x : RxSlice) (rest : List Turn) : State :=
  { s with
    port := rest, rx := { s.rx with slice := some { half := x.half, off := x.off + 1, len := x.len - 1 } }, ret := .none }

/-- The bus oracle answers `v` and leaves the inputs `cart` and the counter of free values `draws`: the first input, or any
value when there is none (20_memory.md R97; log 11). -/
def answers (s : State) (v : Byte) (cart : List Byte) (draws : Nat) : Prop :=
  (s.cart = v :: cart ∧ draws = s.draws) ∨ (s.cart = [] ∧ cart = [] ∧ draws = s.draws + 1)

/-- `k` rounds of EV_TRN_IN of endpoint 0 followed by IRQ. -/
def inRounds : Nat → State → Option State
  | 0, s => some s
  | k + 1, s =>
    match exec (.evTrnIn .ep0 false) s with
    | .next t =>
      match exec .irq t with
      | .next u => inRounds k u
      | _ => none
    | _ => none

/-- How many data packets an IN data stage of n bytes has (41_control_transfer.md R224): at least one, and no extra
zero-length one. -/
def packetsOf (n size : Nat) : Nat := if n = 0 then 1 else (n + size - 1) / size

/-- The state is one that the invariants of the model describe. -/
def wellKept (s : State) : Prop :=
  s.buf.wf = true ∧ s.recordsSized ∧ s.inBounds ∧ s.maskLegal ∧ s.sleepLegal ∧ s.ep0Ready ∧ s.notifStalled ∧
  s.pipeLinked ∧ s.lockSafe

/-- The state after `usb_reset_init()` (40_device_events.md R166), with `l` the drawn line coding; that the header bytes are
zero is 10_state.md R75 (log 36). -/
def usbReset (s : State) (l : List Byte) : State :=
  { s with
    dev := { s.dev with suspended := false, configured := false, lineState := false, address := 0#7, clock := .normal }
    irq := { s.irq with mask := 0x1B#8 }
    bd := { ep0Out := stalledBd (ep0Count s), ep0In := stalledBd (ep0Count s), notifIn := stalledBd 0#10,
            bulkOut0 := stalledBd 64#10, bulkOut1 := stalledBd 64#10, bulkIn0 := stalledBd 64#10,
            bulkIn1 := stalledBd 64#10 }
    ctl := Ctl.idle
    pipeArmed := false
    rx := { busy := { even := false, odd := false }, next := false, eng := false, slice := none }
    tx := { busy := { even := false, odd := false }, next := false, eng := false, slice := none, zlpOwed := false }
    lc := l
    sess := { ended s.sess with hdr := List.replicate 16 0#8 }
    draws := s.draws + 7 }

end Sys2Proof.Statements

open Sys2Proof Sys2Proof.Machine Sys2Proof.Statements

/-! ### Encoding -/

/-- 30_encoding.md R110-R133: decoding the encoding of an operation gives it back, for every operand the encoding admits. -/
def Obligations.DecodeOfEncodeIsTheOperation : Prop := ∀ i : Instr, Laws.RoundTrip.Statement i

/-- 30_encoding.md R110-R133: what decodes is well formed, and is the encoding of what it decodes to; no image has a second
reading and no bit of one is ignored. -/
def Obligations.DecodedImageIsTheEncoding : Prop :=
  ∀ (p : Params) (m : Image) (i : Instr), decode p m = .ok i → i.wellFormed = true ∧ encode p i = m

/-- 95_test_vectors.md V30-W, V30-S, V30-C: a few of the spec's own words. -/
def Obligations.SpecWordsDecodeAsListed : Prop :=
  decode vectorParams (.line ⟨0x0514#16, []⟩) = .ok (.evError 0x14#6) ∧
  decode vectorParams (.line ⟨0x0720#16, [0x03#8, 0x01#8, 0x02#8, 0x03#8]⟩) =
    .ok (.evTrnOut .bulk false [0x01#8, 0x02#8, 0x03#8]) ∧
  decode vectorParams (.line ⟨0x0821#16, []⟩) = .ok (.evTrnIn .bulk true) ∧
  decode vectorParams (.line ⟨0x1205#16, []⟩) = .ok (.rxRead 5#6) ∧
  decode vectorParams (.line ⟨0x1340#16, []⟩) = .ok (.rxTake 64#8) ∧
  decode vectorParams (.line ⟨0x2000#16, []⟩) = .ok .irq ∧
  decode vectorParams (.packet [0x80#8, 0x06#8, 0x02#8, 0x03#8, 0x09#8, 0x04#8, 0xFF#8, 0x00#8]) =
    .ok (.getDescriptor { dirIn := true, recipient := 0#5, wValue := 0x0302#16, wIndex := 0x0409#16,
                          wLength := 255#16 }) ∧
  decode vectorParams (.command [0xC6#8, 0xFE#8, 0x00#8, 0x04#8, 0x00#8]) = .ok (.readBurst 6#3 0x00FE#16 4#16)

/-- 30_encoding.md R119, R121, R123: the refused words are exactly those of the tables; the half bit of endpoint 0 is the
model's reading (log 15), as is the refusal of a wrong payload (log 16). -/
def Obligations.RefusedWordsAreThoseOfTheTables : Prop :=
  ∀ (p : Params) (w : Word),
    (refusedWord p w → ∀ payload, ∃ why, decodeLine p ⟨w, payload⟩ = .reject why) ∧
    (¬ refusedWord p w → ∃ payload i, decodeLine p ⟨w, payload⟩ = .ok i)

/-- 30_encoding.md R112, 41_control_transfer.md R202: two SETUP packets that differ only in the direction and recipient
bits of their first byte decode to operations that do the same in every state. -/
def Obligations.DirectionAndRecipientBitsDoNotMatter : Prop :=
  ∀ (p : Params) (b c : Byte) (rest : List Byte) (i : Instr), b.extractLsb' 5 2 = c.extractLsb' 5 2 →
    decodeSetup p (b :: rest) = .ok i →
    ∃ j, decodeSetup p (c :: rest) = .ok j ∧ ∀ s : State, exec j s = exec i s

/-! ### A step runs the decoded operation -/

/-- 30_encoding.md R123, R131; log 1: the step takes the line at the head of the port and runs what it decodes to, or
refuses it. -/
def Obligations.StepRunsTheDecodedLine : Prop :=
  ∀ (s : State) (l : Line) (rest : List Turn), s.port = .line l :: rest →
    (∀ i, decodeLine s.cfg l = .ok i → step s = exec i { s with port := rest }) ∧
    (∀ why, decodeLine s.cfg l = .reject why → step s = .refused (.badWord why))

/-- 41_control_transfer.md R201, R202, 40_device_events.md R172: an IRQ step that takes a queued SETUP runs the request that
its packet decodes to, with the record taken from the queue. -/
def Obligations.IrqRunsTheDecodedRequest : Prop :=
  ∀ (s : State) (h : Bit) (rest : List Completion) (i : Instr), irqTakes s .trn →
    s.irq.trn = { kind := .setup, ep := .ep0, half := h } :: rest →
    decodeSetup s.cfg ((List.range 8).map fun k => s.readBuf .ep0Out k) = .ok i →
    exec .irq s = exec i { s with irq := { s.irq with trn := rest } }

/-- 43_command_protocol.md R322-R326; log 1, 13: the main-loop step that takes the last header byte of a command runs the
decoded command, and then goes on to the dispatcher's next call; so does the step that takes the id byte of a command
without a header. -/
def Obligations.MainLoopRunsTheDecodedCommand : Prop :=
  ∀ (s : State) (b : Byte) (rest : List Turn) (x : RxSlice) (i : Instr) (n : Nat),
    s.port = .mainLoop :: rest → s.main.asleep = false → s.rx.slice = some x → 1 ≤ x.len →
    (s.main.point = .rxTake .header b → s.sess.hdrFill + 1 = s.sess.hdrNeed →
      headerLen (commandId s.sess.cmd) = some n →
      decodeCommand (s.sess.cmd :: (s.sess.hdr.set s.sess.hdrFill b).take n) = .ok i →
      step s = andThen
        (exec i { s with port := rest, rx := { s.rx with slice := some { x with off := x.off + 1, len := x.len - 1 } }
                         sess := { s.sess with hdr := s.sess.hdr.set s.sess.hdrFill b
                                               hdrFill := s.sess.hdrFill + 1 }
                         ret := .none })
        dispatched) ∧
    (s.main.point = .rxTake .id b → headerLen (commandId b) = some 0 →
      (lockRequired (commandId b) = false ∨ s.sess.unlocked = true) → decodeCommand [b] = .ok i →
      step s = andThen
        (exec i { s with port := rest, rx := { s.rx with slice := some { x with off := x.off + 1, len := x.len - 1 } }
                         ret := .none })
        dispatched)

/-- 43_command_protocol.md R320-R325, R328, R329, 42_bulk_pipe.md R297, R298; log 1, 3, 13: a turn of the main loop is held
while asleep, and otherwise, outside a flash poll, is the firmware call of its place, then the dispatcher's own
computation up to the next call. Each place has its clause: ATTACH, the branches after IS_ACTIVE, RESET_EXEC, SLEEP, the
calls of `rx_byte()`, `start_command` and the header, those of `emit_step()`, and FLUSH. The places of the streams are in
StreamStepsUseOneByte, the last byte of a command in MainLoopRunsTheDecodedCommand. -/
def Obligations.MainLoopIssuesOneCallPerStep : Prop :=
  ∀ (s : State) (rest : List Turn), (s.port = .mainLoop :: rest ∨ (s.port = [] ∧ rest = [])) →
    (s.main.asleep = true → step s = .next { s with port := rest, ret := .held }) ∧
    (s.main.asleep = false →
      let r := { s with port := rest }
      (∀ f, (s.main.point ≠ .top ∨ s.sess.poll = none) → exec (callAt s.main.point) r = .fault f → step s = .fault f) ∧
      (s.main.point = .attach → ∃ t, exec .attach r = .next t ∧ step s = .next (goesTo t .top)) ∧
      (s.main.point = .top → s.sess.poll = none →
        step s = .next
          (if s.dev.configured = true ∧ s.dev.suspended = false ∧ s.dev.lineState = true ∧ s.dev.pendingReset = false then
            dispatched { r with ret := .flag true }
          else
            goesTo { r with sess := ended s.sess, ret := .flag false }
              (if s.dev.pendingReset = true then .resetExec else if s.dev.suspended = true then .sleep else .top))) ∧
      (s.main.point = .resetExec → s.dev.pendingReset = true →
        ∃ t, exec .resetExec r = .next t ∧ step s = .next t ∧ t.main = { asleep := false, point := .attach }) ∧
      (s.main.point = .resetExec → s.dev.pendingReset = false → step s = .next (goesTo { r with ret := .none } .top)) ∧
      (s.main.point = .sleep →
        step s = .next { r with main := { asleep := s.dev.suspended, point := .top }, ret := .none }) ∧
      (∀ u, s.main.point = .rxAcq u →
        ∃ t, exec .acqRx r = .next t ∧ step s = .next (goesTo t (afterAcqRx t.ret (.rxAcqAgain u) u))) ∧
      (∀ u, s.main.point = .rxAcqAgain u →
        ∃ t, exec .acqRx r = .next t ∧ step s = .next (goesTo t (afterAcqRx t.ret .flush u))) ∧
      (∀ u x, s.main.point = .rxRead u → s.rx.slice = some x → 1 ≤ x.len → x.off + x.len ≤ 64 →
        step s = .next (goesTo { r with ret := .byte (s.readBuf (.bulkOut x.half) x.off) }
          (.rxTake u (s.readBuf (.bulkOut x.half) x.off)))) ∧
      (∀ b x, s.main.point = .rxTake .id b → s.rx.slice = some x → 1 ≤ x.len →
        (headerLen (commandId b) = none ∨ (lockRequired (commandId b) = true ∧ s.sess.unlocked = false) →
          step s = .next (dispatched (tookByte s x rest))) ∧
        (∀ n, headerLen (commandId b) = some n → n ≠ 0 →
          (lockRequired (commandId b) = false ∨ s.sess.unlocked = true) →
          step s = .next (goesTo
            { tookByte s x rest with sess := { s.sess with cmd := b, hdrFill := 0, hdrNeed := n, phase := .header } }
            (.rxAcq .header)))) ∧
      (∀ b x, s.main.point = .rxTake .header b → s.rx.slice = some x → 1 ≤ x.len →
        s.sess.hdrFill + 1 ≠ s.sess.hdrNeed →
        step s = .next (dispatched { tookByte s x rest with
          sess := { s.sess with hdr := s.sess.hdr.set s.sess.hdrFill b, hdrFill := s.sess.hdrFill + 1 } })) ∧
      (∀ v, s.main.point = .emitAcq v →
        ∃ t, exec .acqTx r = .next t ∧ step s = .next (goesTo t (afterAcqTx t.ret v))) ∧
      (∀ v t, s.main.point = .emitPut v → exec (.txPut v) r = .next t →
        step s = .next (dispatched { t with sess := { t.sess with step := t.sess.step + 1 } })) ∧
      (s.main.point = .flush → ∃ t, exec .flush r = .next t ∧ step s = .next (goesTo t .top)))

/-! ### Engine acts -/

/-- 40_device_events.md R164, whole: EV_SE0_EXIT moves ATTACHED to POWERED and does nothing in any other state. -/
def Obligations.Se0ExitPowersAnAttachedDevice : Prop :=
  ∀ s : State, decodeLine s.cfg ⟨0x0100#16, []⟩ = .ok .evSe0Exit ∧
    (s.dev.state = .attached →
      exec .evSe0Exit s = .next { s with dev := { s.dev with state := .powered }, ret := .none }) ∧
    (s.dev.state ≠ .attached → ∃ r, exec .evSe0Exit s = .next { s with ret := r })

/-- 40_device_events.md R161, R162, R165, R169-R171: the acts that make a source pending, with R161's ACTIVITY while
suspended. -/
def Obligations.PendingActsSetTheirSource : Prop :=
  ∀ s : State, s.dev.state ≠ .detached →
    exec .evBusReset s =
      .next { s with
        irq := { s.irq with pending := { s.irq.pending with
          reset := true, activity := s.irq.pending.activity || s.dev.suspended } }
        sie := { ppbiOut := false, ppbiIn := false }
        ret := .none } ∧
    (s.dev.suspended = false →
      exec .evIdle s =
        .next { s with irq := { s.irq with pending := { s.irq.pending with idle := true } }, ret := .none }) ∧
    (s.dev.suspended = true → s.irq.pending.activity = false →
      exec .evActivity s =
        .next { s with irq := { s.irq with pending := { s.irq.pending with activity := true } }, ret := .none }) ∧
    (∀ c : BitVec 6, c ≠ 0#6 →
      exec (.evError c) s =
        .next { s with
          irq := { s.irq with
            errBits := s.irq.errBits ||| c
            pending := { s.irq.pending with
              error := true, activity := s.irq.pending.activity || s.dev.suspended } }
          ret := .none })

/-- 40_device_events.md R162, 60_exceptions.md R384: where an act is not enabled it changes nothing, and neither does IRQ with
the interrupt disabled, the device detached or no source taken (what such a step returns is the model's, log 2). -/
def Obligations.StepsThatAreNotEnabledChangeNothing : Prop :=
  ∀ s : State,
    ((s.irq.enable = false ∨ s.dev.state = .detached ∨ ∀ src, ¬ taken s src) →
      exec .irq s = .next { s with ret := .notEnabled }) ∧
    (s.dev.state = .detached → ∀ i ∈ [Instr.evSe0Exit, .evBusReset, .evIdle, .evActivity],
      exec i s = .next { s with ret := .notEnabled }) ∧
    (s.dev.state = .detached → ∀ c, exec (.evError c) s = .next { s with ret := .notEnabled }) ∧
    (s.dev.suspended = true → exec .evIdle s = .next { s with ret := .notEnabled }) ∧
    ((s.dev.suspended = false ∨ s.irq.pending.activity = true) →
      exec .evActivity s = .next { s with ret := .notEnabled }) ∧
    (∀ ep h data packet, (s.dev.state ≠ .default ∨ s.irq.pending.reset = true ∨ ep = .notif) →
      exec (.evTrnOut ep h data) s = .next { s with ret := .notEnabled } ∧
      exec (.evTrnIn ep h) s = .next { s with ret := .notEnabled } ∧
      (ep ≠ .notif → exec (.evTrnSetup packet) s = .next { s with ret := .notEnabled })) ∧
    (∀ packet, s.bd.ep0Out.own = .firmware → exec (.evTrnSetup packet) s = .next { s with ret := .notEnabled }) ∧
    (∀ h data, (s.bd.ep0Out.own = .firmware ∨ s.bd.ep0Out.stall = true ∨ s.cfg.ep0Size.bytes < data.length) →
      exec (.evTrnOut .ep0 h data) s = .next { s with ret := .notEnabled }) ∧
    (∀ h, (s.bd.ep0In.own = .firmware ∨ s.bd.ep0In.stall = true) →
      exec (.evTrnIn .ep0 h) s = .next { s with ret := .notEnabled }) ∧
    (∀ h data, (h ≠ s.sie.ppbiOut ∨ (s.desc (.bulkOut h)).own = .firmware ∨ (s.desc (.bulkOut h)).stall = true ∨
        64 < data.length) →
      exec (.evTrnOut .bulk h data) s = .next { s with ret := .notEnabled }) ∧
    (∀ h, (h ≠ s.sie.ppbiIn ∨ (s.desc (.bulkIn h)).own = .firmware ∨ (s.desc (.bulkIn h)).stall = true) →
      exec (.evTrnIn .bulk h) s = .next { s with ret := .notEnabled })

/-- 40_device_events.md R162, R163: an enabled EV_TRN_SETUP stores its 8 bytes, hands `bd[0][OUT]` back with count 8 and
queues the record, whatever the descriptor's stall and toggle. -/
def Obligations.SetupActStoresItsPacket : Prop :=
  ∀ (s : State) (packet : List Byte), packet.length = 8 → s.dev.state = .default → s.irq.pending.reset = false →
    s.bd.ep0Out.own = .engine →
    ∃ t, exec (.evTrnSetup packet) s = .next t ∧
      t = { s with
            buf := t.buf
            bd := { s.bd with ep0Out := { s.bd.ep0Out with own := .firmware, count := 8#10 } }
            irq := { s.irq with
              trn := s.irq.trn ++ [{ kind := .setup, ep := .ep0, half := false }]
              pending := { s.irq.pending with activity := s.irq.pending.activity || s.dev.suspended } }
            ret := .none } ∧
      storedAt s t .ep0Out packet

/-- 40_device_events.md R162, R163: an enabled EV_TRN_OUT stores its bytes and their count, hands the descriptor back, flips
the engine's pointer on the bulk endpoint, and queues the record. -/
def Obligations.OutActsStoreTheirBytes : Prop :=
  ∀ (s : State) (data : List Byte), s.dev.state = .default → s.irq.pending.reset = false →
    (s.bd.ep0Out.own = .engine → s.bd.ep0Out.stall = false → data.length ≤ s.cfg.ep0Size.bytes →
      ∃ t, exec (.evTrnOut .ep0 false data) s = .next t ∧
        t = { s with
              buf := t.buf
              bd := { s.bd with
                ep0Out := { s.bd.ep0Out with own := .firmware, count := BitVec.ofNat 10 data.length } }
              irq := { s.irq with
                trn := s.irq.trn ++ [{ kind := .out, ep := .ep0, half := false }]
                pending := { s.irq.pending with activity := s.irq.pending.activity || s.dev.suspended } }
              ret := .none } ∧
        storedAt s t .ep0Out data) ∧
    (∀ h, h = s.sie.ppbiOut → (s.desc (.bulkOut h)).own = .engine → (s.desc (.bulkOut h)).stall = false →
      data.length ≤ 64 →
      ∃ t, exec (.evTrnOut .bulk h data) s = .next t ∧
        t = { s with
              buf := t.buf
              bd := s.bd.put (.bulkOut h)
                { s.desc (.bulkOut h) with own := .firmware, count := BitVec.ofNat 10 data.length }
              irq := { s.irq with
                trn := s.irq.trn ++ [{ kind := .out, ep := .bulk, half := h }]
                pending := { s.irq.pending with activity := s.irq.pending.activity || s.dev.suspended } }
              sie := { s.sie with ppbiOut := !h }
              ret := .none } ∧
        storedAt s t (.bulkOut h) data)

/-- 40_device_events.md R162, R163: an enabled EV_TRN_IN puts the descriptor's first `count` bytes on the wire with its
toggle, hands the descriptor back unchanged but for its owner, flips the engine's pointer on the bulk endpoint, and
queues the record. -/
def Obligations.InActsPutThePacketOnTheWire : Prop :=
  ∀ s : State, s.dev.state = .default → s.irq.pending.reset = false →
    (s.bd.ep0In.own = .engine → s.bd.ep0In.stall = false → s.bd.ep0In.count.toNat ≤ s.cfg.ep0Size.bytes →
      exec (.evTrnIn .ep0 false) s =
        .next { s with
          bd := { s.bd with ep0In := { s.bd.ep0In with own := .firmware } }
          wireIn := s.wireIn ++ [{ ep := .ep0, dts := s.bd.ep0In.dts
                                   data := (List.range s.bd.ep0In.count.toNat).map fun k => s.readBuf .ep0In k }]
          irq := { s.irq with
            trn := s.irq.trn ++ [{ kind := .inp, ep := .ep0, half := false }]
            pending := { s.irq.pending with activity := s.irq.pending.activity || s.dev.suspended } }
          ret := .none }) ∧
    (∀ h, h = s.sie.ppbiIn → (s.desc (.bulkIn h)).own = .engine → (s.desc (.bulkIn h)).stall = false →
      (s.desc (.bulkIn h)).count.toNat ≤ 64 →
      exec (.evTrnIn .bulk h) s =
        .next { s with
          bd := s.bd.put (.bulkIn h) { s.desc (.bulkIn h) with own := .firmware }
          wireIn := s.wireIn ++ [{ ep := .bulk, dts := (s.desc (.bulkIn h)).dts
                                   data := (List.range (s.desc (.bulkIn h)).count.toNat).map fun k =>
                                     s.readBuf (.bulkIn h) k }]
          irq := { s.irq with
            trn := s.irq.trn ++ [{ kind := .inp, ep := .bulk, half := h }]
            pending := { s.irq.pending with activity := s.irq.pending.activity || s.dev.suspended } }
          sie := { s.sie with ppbiIn := !h }
          ret := .none })

/-! ### The interrupt step -/

/-- 10_state.md R75, 40_device_events.md R165, R166, 60_exceptions.md R384: the RESET step, every field of it; the line
coding is any 7 bytes, and that the header bytes become zero is the model's reading of R75 (log 36). -/
def Obligations.ResetStepInitialisesTheBlock : Prop :=
  ∀ s : State, irqTakes s .reset →
    ∃ l, l.length = 7 ∧
      exec .irq s =
        .next { usbReset s l with
          dev := { (usbReset s l).dev with state := .default }
          irq := { s.irq with mask := 0x1B#8, trn := [], pending := { s.irq.pending with reset := false } }
          ret := .none }

/-- 40_device_events.md R169, R170, 60_exceptions.md R384: the IDLE step saves the mask, arms only ACTIVITY, removes a stale
ACTIVITY and suspends the device; the ACTIVITY step restores the mask (written with bit 7 clear, log 26) and the clock of
a suspended device, and wakes the main loop. -/
def Obligations.IdleStepSuspendsAndActivityStepResumes : Prop :=
  ∀ s : State,
    (irqTakes s .idle →
      exec .irq s =
        .next { s with
          dev := { s.dev with clock := .lowPower, suspended := true }
          irq := { s.irq with
            mask := 0x04#8, savedMask := s.irq.mask
            pending := { s.irq.pending with activity := false, idle := false } }
          ret := .none }) ∧
    (irqTakes s .activity →
      exec .irq s =
        .next { s with
          dev := if s.dev.suspended then { s.dev with clock := .normal, suspended := false } else s.dev
          irq := { s.irq with
            mask := if s.dev.suspended then s.irq.savedMask &&& 0x7F#8 else s.irq.mask
            pending := { s.irq.pending with activity := false } }
          main := { s.main with asleep := false }
          ret := .none })

/-- 40_device_events.md R171, 60_exceptions.md R384: the ERROR step counts each pending class once and sets its sticky flag;
at MAX the count becomes 0 or MAX, the spec does not say which (log 7). -/
def Obligations.ErrorStepCountsEachPendingClass : Prop :=
  ∀ s : State, irqTakes s .error →
    ∃ d : Diag,
      exec .irq s =
        .next { s with
          diag := d
          irq := { s.irq with errBits := 0#6, pending := { s.irq.pending with error := false } }
          draws := s.draws + 6
          ret := .none } ∧
      d.bootVoltage = s.diag.bootVoltage ∧ d.bootCause = s.diag.bootCause ∧ d.bootSp = s.diag.bootSp ∧
      ∀ c ∈ [(0, Diag.pid), (1, Diag.crc5), (2, Diag.crc16), (3, Diag.busTurnaround), (4, Diag.busTimeout),
             (5, Diag.dataToggle)],
        (s.irq.errBits.getLsbD c.1 = false → c.2 d = c.2 s.diag) ∧
        (s.irq.errBits.getLsbD c.1 = true →
          (c.2 d).sticky = true ∧
          ((c.2 s.diag).count < 2 ^ s.cfg.errCtrBits - 1 → (c.2 d).count = (c.2 s.diag).count + 1) ∧
          (2 ^ s.cfg.errCtrBits - 1 ≤ (c.2 s.diag).count →
            (c.2 d).count = 0 ∨ (c.2 d).count = 2 ^ s.cfg.errCtrBits - 1))

/-- 42_bulk_pipe.md R290, R291, 40_device_events.md R172, 60_exceptions.md R382: a bulk completion frees the half the engine
was expected to complete and moves on to the other; with the pipe disarmed, a wrong half or a half that is not busy the
step faults, in that order. -/
def Obligations.BulkCompletionsFreeTheExpectedHalf : Prop :=
  ∀ (s : State) (h : Bit) (rest : List Completion), irqTakes s .trn →
    (s.irq.trn = { kind := .out, ep := .bulk, half := h } :: rest →
      (s.pipeArmed = true → h = s.rx.eng → s.rx.busy.get h = true →
        exec .irq s =
          .next { s with irq := { s.irq with trn := rest }
                         rx := { s.rx with busy := s.rx.busy.put h false, eng := !h }, ret := .none }) ∧
      (s.pipeArmed = false → exec .irq s = .fault (.unexpectedCompletion { kind := .out, ep := .bulk, half := h })) ∧
      (s.pipeArmed = true → h ≠ s.rx.eng → exec .irq s = .fault (.parityDesync .out h s.rx.eng)) ∧
      (s.pipeArmed = true → h = s.rx.eng → s.rx.busy.get h = false →
        exec .irq s = .fault (.completionUnarmed .out h))) ∧
    (s.irq.trn = { kind := .inp, ep := .bulk, half := h } :: rest →
      (s.pipeArmed = true → h = s.tx.eng → s.tx.busy.get h = true →
        exec .irq s =
          .next { s with irq := { s.irq with trn := rest }
                         tx := { s.tx with busy := s.tx.busy.put h false, eng := !h }, ret := .none }) ∧
      (s.pipeArmed = false → exec .irq s = .fault (.unexpectedCompletion { kind := .inp, ep := .bulk, half := h })) ∧
      (s.pipeArmed = true → h ≠ s.tx.eng → exec .irq s = .fault (.parityDesync .inp h s.tx.eng)) ∧
      (s.pipeArmed = true → h = s.tx.eng → s.tx.busy.get h = false →
        exec .irq s = .fault (.completionUnarmed .inp h)))

/-- 41_control_transfer.md R224, R225, R227: an endpoint-0 IN completion outside a data stage applies the deferred address;
in an IN data stage it arms the next bytes of the source with the next toggle, and after the last chunk it changes
nothing; in an OUT data stage it faults. -/
def Obligations.InCompletionSendsOnOrAppliesTheAddress : Prop :=
  ∀ (s : State) (h : Bit) (rest : List Completion), irqTakes s .trn →
    s.irq.trn = { kind := .inp, ep := .ep0, half := h } :: rest →
    (∀ a, s.ctl.dataStage = false → s.ctl.pendingAddress = some a →
      exec .irq s =
        .next { s with irq := { s.irq with trn := rest }, dev := { s.dev with address := a }
                       ctl := { s.ctl with pendingAddress := none }, ret := .none }) ∧
    (s.ctl.dataStage = false → s.ctl.pendingAddress = none →
      exec .irq s = .next { s with irq := { s.irq with trn := rest }, ret := .none }) ∧
    (s.ctl.dataStage = true → s.ctl.dirIn = true → s.ctl.inDone = true →
      exec .irq s = .next { s with irq := { s.irq with trn := rest }, ret := .none }) ∧
    (s.ctl.dataStage = true → s.ctl.dirIn = false →
      exec .irq s = .fault (.unexpectedCompletion { kind := .inp, ep := .ep0, half := false })) ∧
    (s.ctl.dataStage = true → s.ctl.dirIn = true → s.ctl.inDone = false →
      let k := min s.ctl.remaining.toNat s.cfg.ep0Size.bytes
      ∃ t, exec .irq s = .next t ∧
        t = { s with
              buf := t.buf
              irq := { s.irq with trn := rest }
              bd := { s.bd with ep0In := armedBd (BitVec.ofNat 10 k) s.ctl.toggle }
              ctl := { s.ctl with
                offset := s.ctl.offset + BitVec.ofNat 16 k
                remaining := BitVec.ofNat 16 (s.ctl.remaining.toNat - k)
                toggle := !s.ctl.toggle
                inDone := decide (k < s.cfg.ep0Size.bytes) || decide (s.ctl.remaining.toNat = k) }
              ret := .none } ∧
        storedAt s t .ep0In (((srcBytes s s.ctl.src).drop s.ctl.offset.toNat).take k))

/-- 41_control_transfer.md R226: an endpoint-0 OUT completion in an OUT data stage takes at most the bytes still wanted,
stores them in the line coding where they have a place there, and ends the stage with the status IN or arms the next
packet; any other one ends the transfer, takes `bd[0][IN]` back and arms `bd[0][OUT]` for the next SETUP. -/
def Obligations.OutCompletionTakesDataOrEndsTheTransfer : Prop :=
  ∀ (s : State) (h : Bit) (rest : List Completion), irqTakes s .trn →
    s.irq.trn = { kind := .out, ep := .ep0, half := h } :: rest →
    ((s.ctl.dataStage = false ∨ s.ctl.dirIn = true) →
      exec .irq s =
        .next { s with
          irq := { s.irq with trn := rest }
          ctl := Ctl.idle
          bd := { s.bd with ep0In := { s.bd.ep0In with stall := false, own := .firmware }
                            ep0Out := armedBd (ep0Count s) false }
          ret := .none }) ∧
    (s.ctl.dataStage = true → s.ctl.dirIn = false → s.lc.length = 7 →
      let n := s.bd.ep0Out.count.toNat
      let k := min n s.ctl.remaining.toNat
      let last := decide (n < s.cfg.ep0Size.bytes) || decide (s.ctl.remaining.toNat = k)
      ∃ t, exec .irq s = .next t ∧
        t = { s with
              lc := t.lc
              irq := { s.irq with trn := rest }
              bd := if last then { s.bd with ep0In := armedBd 0#10 true, ep0Out := armedBd (ep0Count s) false }
                    else { s.bd with ep0Out := armedBd (ep0Count s) (!s.ctl.toggle) }
              ctl := { s.ctl with
                dataStage := !last
                offset := s.ctl.offset + BitVec.ofNat 16 k
                remaining := BitVec.ofNat 16 (s.ctl.remaining.toNat - k)
                toggle := !s.ctl.toggle }
              ret := .none } ∧
        t.lc.length = 7 ∧
        ∀ i, i < 7 → t.lc.getD i 0#8 =
          if s.ctl.dest = some .lc ∧ s.ctl.offset.toNat ≤ i ∧ i < s.ctl.offset.toNat + k then
            s.readBuf .ep0Out (i - s.ctl.offset.toNat)
          else s.lc.getD i 0#8)

/-! ### Firmware operations -/

/-- 42_bulk_pipe.md R297: while the main loop sleeps no firmware operation changes anything (what it returns is the model's,
log 3). -/
def Obligations.SleepHoldsEveryFirmwareOperation : Prop :=
  ∀ s : State, s.main.asleep = true →
    (∀ i ∈ [Instr.attach, .acqRx, .acqTx, .flush, .isActive, .csEnter, .csExit, .sleep, .resetExec],
      exec i s = .next { s with ret := .held }) ∧
    (∀ k, exec (.rxRead k) s = .next { s with ret := .held }) ∧
    (∀ n, exec (.rxTake n) s = .next { s with ret := .held }) ∧
    (∀ b, exec (.txPut b) s = .next { s with ret := .held })

/-- 42_bulk_pipe.md R270-R272, R275: ACQ_RX answers the active slice, re-arms an exhausted one, and exposes only the half
`rx.next`. -/
def Obligations.AcqRxExposesHalvesInTurn : Prop :=
  ∀ s : State, s.main.asleep = false →
    (s.pipeArmed = false → exec .acqRx s = .next { s with ret := .acquired false 0 }) ∧
    (∀ x, s.pipeArmed = true → s.rx.slice = some x → x.len ≠ 0 →
      exec .acqRx s = .next { s with ret := .acquired true x.len }) ∧
    (s.pipeArmed = true → s.rx.slice = none → s.rx.busy.get s.rx.next = true →
      exec .acqRx s = .next { s with ret := .acquired false 0 }) ∧
    (s.pipeArmed = true → s.rx.slice = none → s.rx.busy.get s.rx.next = false →
      exec .acqRx s =
        .next { s with
          rx := { s.rx with slice := some { half := s.rx.next, off := 0
                                            len := (s.desc (.bulkOut s.rx.next)).count.toNat } }
          ret := .acquired true (s.desc (.bulkOut s.rx.next)).count.toNat }) ∧
    (∀ x, s.pipeArmed = true → s.rx.slice = some x → x.len = 0 → x.half = s.rx.next →
      s.rx.busy.get (!x.half) = true →
      exec .acqRx s =
        .next { s with
          bd := s.bd.put (.bulkOut x.half) (armedBd 64#10 x.half)
          rx := { s.rx with busy := s.rx.busy.put x.half true, next := !x.half, slice := none }
          ret := .acquired false 0 }) ∧
    (∀ x, s.pipeArmed = true → s.rx.slice = some x → x.len = 0 → x.half = s.rx.next →
      s.rx.busy.get (!x.half) = false →
      exec .acqRx s =
        .next { s with
          bd := s.bd.put (.bulkOut x.half) (armedBd 64#10 x.half)
          rx := { s.rx with
            busy := s.rx.busy.put x.half true, next := !x.half
            slice := some { half := !x.half, off := 0, len := (s.desc (.bulkOut (!x.half))).count.toNat } }
          ret := .acquired true (s.desc (.bulkOut (!x.half))).count.toNat })

/-- 42_bulk_pipe.md R273: RX_READ answers a byte of the slice and changes nothing else; without a slice or past its end it
faults. -/
def Obligations.RxReadReadsWithoutConsuming : Prop :=
  ∀ (s : State) (k : BitVec 6), s.main.asleep = false →
    (s.rx.slice = none → exec (.rxRead k) s = .fault .noSlice) ∧
    (∀ x, s.rx.slice = some x → x.len ≤ k.toNat → exec (.rxRead k) s = .fault (.sliceRange k.toNat x.len)) ∧
    (∀ x, s.rx.slice = some x → k.toNat < x.len → x.off + x.len ≤ 64 →
      exec (.rxRead k) s = .next { s with ret := .byte (s.readBuf (.bulkOut x.half) (x.off + k.toNat)) })

/-- 42_bulk_pipe.md R274, whole: RX_TAKE shortens the slice from its front; without a slice or past its end it faults. -/
def Obligations.RxTakeShortensTheSlice : Prop :=
  ∀ (s : State) (n : Byte), s.main.asleep = false →
    (n.toNat ≤ 64 → decodeLine s.cfg ⟨0x13#8 ++ n, []⟩ = .ok (.rxTake n)) ∧
    (s.rx.slice = none → exec (.rxTake n) s = .fault .noSlice) ∧
    (∀ x, s.rx.slice = some x → x.len < n.toNat → exec (.rxTake n) s = .fault (.sliceRange n.toNat x.len)) ∧
    (∀ x, s.rx.slice = some x → n.toNat ≤ x.len →
      exec (.rxTake n) s =
        .next { s with
          rx := { s.rx with slice := some { half := x.half, off := x.off + n.toNat, len := x.len - n.toNat } }
          ret := .none })

/-- 42_bulk_pipe.md R270, R276, R277, R280: ACQ_TX answers the active slice, arms a full one and owes a zero-length packet
for it, and acquires only the half `tx.next`. -/
def Obligations.AcqTxAcquiresHalvesInTurn : Prop :=
  ∀ s : State, s.main.asleep = false →
    (s.pipeArmed = false → exec .acqTx s = .next { s with ret := .acquired false 0 }) ∧
    (∀ x, s.pipeArmed = true → s.tx.slice = some x → x.rem ≠ 0 →
      exec .acqTx s = .next { s with ret := .acquired true x.rem }) ∧
    (s.pipeArmed = true → s.tx.slice = none → s.tx.busy.get s.tx.next = true →
      exec .acqTx s = .next { s with ret := .acquired false 0 }) ∧
    (s.pipeArmed = true → s.tx.slice = none → s.tx.busy.get s.tx.next = false →
      exec .acqTx s =
        .next { s with tx := { s.tx with slice := some { half := s.tx.next, fill := 0, rem := 64 } }
                       ret := .acquired true 64 }) ∧
    (∀ x, s.pipeArmed = true → s.tx.slice = some x → x.rem = 0 → x.fill = 64 → x.half = s.tx.next →
      exec .acqTx s =
        .next (txArmed s x.half 64
          (if s.tx.busy.get (!x.half) then .acquired false 0 else .acquired true 64)))

/-- 42_bulk_pipe.md R278, whole: TX_PUT writes one byte at the end of the slice; without a slice or on a full one it
faults. -/
def Obligations.TxPutWritesOneByte : Prop :=
  ∀ (s : State) (b : Byte), s.main.asleep = false →
    decodeLine s.cfg ⟨0x15#8 ++ b, []⟩ = .ok (.txPut b) ∧
    (s.tx.slice = none → exec (.txPut b) s = .fault .noSlice) ∧
    (∀ x, s.tx.slice = some x → x.rem = 0 → exec (.txPut b) s = .fault (.sliceRange x.fill 64)) ∧
    (∀ x, s.tx.slice = some x → x.rem ≠ 0 → x.fill + x.rem = 64 →
      ∃ t, exec (.txPut b) s = .next t ∧
        t = { s with
              buf := t.buf
              tx := { s.tx with slice := some { half := x.half, fill := x.fill + 1, rem := x.rem - 1 } }
              ret := .none } ∧
        ∀ d i, i < 64 → t.readBuf d i = if d = .bulkIn x.half ∧ i = x.fill then b else s.readBuf d i)

/-- 42_bulk_pipe.md R270, R277, R280, R281: FLUSH, all its cases; a packet of exactly 64 bytes is answered false and owes a
zero-length one. -/
def Obligations.FlushArmsTheSliceOrTheOwedPacket : Prop :=
  ∀ s : State, s.main.asleep = false →
    (s.pipeArmed = false → exec .flush s = .next { s with ret := .flag false }) ∧
    (s.pipeArmed = true → s.tx.slice = none → s.tx.zlpOwed = false →
      exec .flush s = .next { s with ret := .flag true }) ∧
    (s.pipeArmed = true → s.tx.slice = none → s.tx.zlpOwed = true → s.tx.busy.get s.tx.next = true →
      exec .flush s = .next { s with ret := .flag false }) ∧
    (s.pipeArmed = true → s.tx.slice = none → s.tx.zlpOwed = true → s.tx.busy.get s.tx.next = false →
      exec .flush s = .next (txArmed s s.tx.next 0 (.flag true))) ∧
    (∀ x, s.pipeArmed = true → s.tx.slice = some x → x.fill = 0 → s.tx.zlpOwed = false →
      exec .flush s = .next { s with ret := .flag true }) ∧
    (∀ x, s.pipeArmed = true → s.tx.slice = some x → (x.fill ≠ 0 ∨ s.tx.zlpOwed = true) →
      exec .flush s = .next (txArmed s x.half x.fill (.flag (decide (x.fill ≠ 64)))))

/-- 42_bulk_pipe.md R293, whole: IS_ACTIVE answers the four flags and changes nothing. -/
def Obligations.IsActiveAnswersTheFourFlags : Prop :=
  ∀ s : State, s.main.asleep = false →
    decodeLine s.cfg ⟨0x1700#16, []⟩ = .ok .isActive ∧
    exec .isActive s =
      .next { s with ret := .flag (s.dev.configured && !s.dev.suspended && s.dev.lineState && !s.dev.pendingReset) }

/-- 42_bulk_pipe.md R294, R295: CS_ENTER saves and clears the enable bit, CS_EXIT restores it, and with no section open it
faults; so the two in a row, at any depth, leave the interrupt group as it was. -/
def Obligations.CriticalSectionsSaveAndRestore : Prop :=
  ∀ s : State, s.main.asleep = false →
    exec .csEnter s =
      .next { s with irq := { s.irq with csStack := s.irq.enable :: s.irq.csStack, enable := false }, ret := .none } ∧
    (s.irq.csStack = [] → exec .csExit s = .fault .csUnbalanced) ∧
    (∀ saved rest, s.irq.csStack = saved :: rest →
      exec .csExit s = .next { s with irq := { s.irq with csStack := rest, enable := saved }, ret := .none }) ∧
    (∀ t, exec .csEnter s = .next t → exec .csExit t = .next { s with ret := .none })

/-- 42_bulk_pipe.md R292, 40_device_events.md R166: ATTACH initialises a detached block, every field of it (the header
bytes: log 36), and enables the interrupt; in any other state it does nothing. -/
def Obligations.AttachInitialisesADetachedBlock : Prop :=
  ∀ s : State, s.main.asleep = false →
    (s.dev.state = .detached → ∃ l, l.length = 7 ∧
      exec .attach s =
        .next { usbReset s l with
          dev := { (usbReset s l).dev with state := .attached }
          irq := { s.irq with mask := 0x1B#8, enable := true }
          ret := .none }) ∧
    (s.dev.state ≠ .detached → exec .attach s = .next { s with ret := .none })

/-- 42_bulk_pipe.md R296, R298, 43_command_protocol.md R347, 10_state.md R75: SLEEP sleeps only while suspended; RESET_EXEC
and WATCHDOG give the power-on state with the persisted byte and the two observation lists kept (the model's inputs,
parameters and counters go on, log 20), and do nothing where no reset is staged or no flash poll is in progress (that a
WATCHDOG without a poll returns "not enabled" is the model's, log 2). -/
def Obligations.SleepAndTheTwoDeviceResets : Prop :=
  ∀ s : State,
    (s.main.asleep = false →
      exec .sleep s = .next { s with main := { s.main with asleep := s.dev.suspended }, ret := .none } ∧
      (s.dev.pendingReset = false → exec .resetExec s = .next { s with ret := .none }) ∧
      (s.dev.pendingReset = true →
        exec .resetExec s =
          .next { State.powerOn s.cfg s.draws with
            resetReason := s.resetReason, wireIn := s.wireIn, busTrace := s.busTrace, port := s.port
            cart := s.cart })) ∧
    (s.sess.poll = none → exec .watchdog s = .next { s with ret := .notEnabled }) ∧
    (s.sess.poll ≠ none →
      exec .watchdog s =
        .next { State.powerOn s.cfg s.draws with
          resetReason := s.resetReason, wireIn := s.wireIn, busTrace := s.busTrace, port := s.port, cart := s.cart })

/-! ### Control requests -/

/-- 41_control_transfer.md R201, R205, R209, R213, R218, R219: the requests without a data stage change their own field and
end with the status IN armed. -/
def Obligations.NoDataRequestsArmTheStatusIn : Prop :=
  ∀ (s : State) (q : SetupFields),
    exec (.setAddress q) s =
      .next { statusArmed s with ctl := { Ctl.idle with pendingAddress := some (q.wValue.extractLsb' 0 7) } } ∧
    ((q.wIndex.extractLsb' 0 8).toNat ≤ 1 → q.wValue.extractLsb' 0 8 = 0#8 →
      exec (.setInterface q) s = .next (statusArmed s)) ∧
    (s.dev.configured = true →
      exec (.setControlLineState q) s =
        .next { statusArmed s with dev := { s.dev with lineState := q.wValue.getLsbD 0 } }) ∧
    exec (.vendorReset q) s =
      .next { statusArmed s with
        resetReason := q.wValue.extractLsb' 0 8, dev := { s.dev with pendingReset := true } }

/-- 41_control_transfer.md R211, 42_bulk_pipe.md R285, R286: SET_CONFIGURATION of 1 sets the pipe up and of 0 tears it down,
unless a bulk completion is queued, which faults. -/
def Obligations.SetConfigurationRebuildsThePipe : Prop :=
  ∀ (s : State) (q : SetupFields),
    ((∀ e ∈ s.irq.trn, e.ep ≠ .bulk) → (q.wValue.extractLsb' 0 8 = 1#8 →
      exec (.setConfiguration q) s =
        .next { statusArmed s with
          dev := { s.dev with configured := true }
          bd := { (statusArmed s).bd with
            bulkOut0 := armedBd 64#10 false, bulkOut1 := armedBd 64#10 true
            bulkIn0 := { own := .firmware, dts := false, stall := false, count := 0#10 }
            bulkIn1 := { own := .firmware, dts := true, stall := false, count := 0#10 } }
          pipeArmed := true
          rx := { busy := { even := true, odd := true }, next := false, eng := false, slice := none }
          tx := { busy := { even := false, odd := false }, next := false, eng := false, slice := none
                  zlpOwed := false }
          sie := { ppbiOut := false, ppbiIn := false } })) ∧
    ((∀ e ∈ s.irq.trn, e.ep ≠ .bulk) → (q.wValue.extractLsb' 0 8 = 0#8 →
      exec (.setConfiguration q) s =
        .next { statusArmed s with
          dev := { s.dev with configured := false }
          bd := { (statusArmed s).bd with
            bulkOut0 := stalledBd 64#10, bulkOut1 := stalledBd 64#10
            bulkIn0 := stalledBd 64#10, bulkIn1 := stalledBd 64#10 }
          pipeArmed := false
          rx := { busy := { even := false, odd := false }, next := false, eng := false, slice := none }
          tx := { busy := { even := false, odd := false }, next := false, eng := false, slice := none
                  zlpOwed := false }
          sie := { ppbiOut := false, ppbiIn := false } })) ∧
    ((∃ e ∈ s.irq.trn, e.ep = .bulk) → (q.wValue.extractLsb' 0 8).toNat ≤ 1 →
      exec (.setConfiguration q) s = .fault .reconfigInFlight)

/-- 41_control_transfer.md R201, R203, R207, R208, R210, R212, R215, R217, R220, R224: the requests with an IN data stage
send the first packet of their source, clipped to wLength. -/
def Obligations.InRequestsSendTheirFirstPacket : Prop :=
  ∀ (s : State) (q : SetupFields),
    (∃ t, exec (.getStatus q) s = .next t ∧ inStarted s .ram .status2 [0x00#8, 0x00#8] q.wLength t) ∧
    (q.wValue = 0x0100#16 →
      ∃ t, exec (.getDescriptor q) s = .next t ∧ inStarted s .rom .device s.cfg.descDevice q.wLength t) ∧
    (q.wValue = 0x0200#16 →
      ∃ t, exec (.getDescriptor q) s = .next t ∧ inStarted s .rom .config s.cfg.descConfig q.wLength t) ∧
    (q.wValue = 0x0300#16 →
      ∃ t, exec (.getDescriptor q) s = .next t ∧ inStarted s .rom .string0 s.cfg.descString0 q.wLength t) ∧
    (q.wValue = 0x0301#16 →
      ∃ t, exec (.getDescriptor q) s = .next t ∧ inStarted s .rom .string1 s.cfg.descString1 q.wLength t) ∧
    (q.wValue = 0x0302#16 →
      ∃ t, exec (.getDescriptor q) s = .next t ∧ inStarted s .rom .string2 s.cfg.descString2 q.wLength t) ∧
    (∃ t v, exec (.getConfiguration q) s = .next t ∧ v = (if s.dev.configured then 0x01#8 else 0x00#8) ∧
      inStarted s .ram (.cfgval v) [v] q.wLength t) ∧
    ((q.wIndex.extractLsb' 0 8).toNat ≤ 1 →
      ∃ t, exec (.getInterface q) s = .next t ∧ inStarted s .ram .altval [0x00#8] q.wLength t) ∧
    (s.dev.configured = true →
      ∃ t, exec (.getEncapsulatedResponse q) s = .next t ∧ inStarted s .none .none [] q.wLength t) ∧
    (s.dev.configured = true →
      ∃ t, exec (.getLineCoding q) s = .next t ∧ inStarted s .ram .lc s.lc q.wLength t) ∧
    (∃ t, exec (.vendorIdentify q) s = .next t ∧
      inStarted s .ram .ident
        [0x99#8, s.cfg.blVersion.extractLsb' 0 8, s.cfg.blVersion.extractLsb' 8 8, s.cfg.fwMinor, s.cfg.fwMajor]
        q.wLength t)

/-- 10_state.md R43, 41_control_transfer.md R201, R206, R214, R216: the requests with an OUT data stage take `bd[0][IN]` back
and arm `bd[0][OUT]` with DATA1, or, with wLength 0, end at once with the status IN; the source field of the stage is
the model's reading of R43 (log 12). -/
def Obligations.OutRequestsAwaitTheirFirstPacket : Prop :=
  ∀ (s : State) (q : SetupFields), s.dev.configured = true →
    (q.wLength = 0#16 → exec (.sendEncapsulatedCommand q) s = .next (statusArmed s) ∧
      exec (.setLineCoding q) s = .next (statusArmed s)) ∧
    (q.wLength ≠ 0#16 →
      exec (.sendEncapsulatedCommand q) s =
        .next { s with
          bd := { s.bd with ep0In := { s.bd.ep0In with stall := false, own := .firmware }
                            ep0Out := armedBd (ep0Count s) true }
          ctl := { Ctl.idle with dataStage := true, remaining := q.wLength }
          ret := .none } ∧
      exec (.setLineCoding q) s =
        .next { s with
          bd := { s.bd with ep0In := { s.bd.ep0In with stall := false, own := .firmware }
                            ep0Out := armedBd (ep0Count s) true }
          ctl := { Ctl.idle with
            dataStage := true, remaining := q.wLength, srcKind := .ram, src := .lc, dest := some .lc }
          ret := .none })

/-- 41_control_transfer.md R204, R208, R211-R213, R221: the requests that do not match stall both directions of endpoint 0
and change nothing else: wrong operands, class requests while not configured, and packets that no row decodes. -/
def Obligations.UnmatchedRequestsStallEndpointZero : Prop :=
  ∀ (s : State) (q : SetupFields),
    (q.wValue ∉ [0x0100#16, 0x0200#16, 0x0300#16, 0x0301#16, 0x0302#16] →
      exec (.getDescriptor q) s = .next (ep0Stalled s)) ∧
    (2 ≤ (q.wValue.extractLsb' 0 8).toNat → exec (.setConfiguration q) s = .next (ep0Stalled s)) ∧
    (2 ≤ (q.wIndex.extractLsb' 0 8).toNat →
      exec (.getInterface q) s = .next (ep0Stalled s) ∧ exec (.setInterface q) s = .next (ep0Stalled s)) ∧
    (q.wValue.extractLsb' 0 8 ≠ 0#8 → exec (.setInterface q) s = .next (ep0Stalled s)) ∧
    (s.dev.configured = false →
      ∀ i ∈ [Instr.sendEncapsulatedCommand q, .getEncapsulatedResponse q, .setLineCoding q, .getLineCoding q,
             .setControlLineState q], exec i s = .next (ep0Stalled s)) ∧
    (∀ h rest why, irqTakes s .trn → s.irq.trn = { kind := .setup, ep := .ep0, half := h } :: rest →
      decodeSetup s.cfg ((List.range 8).map fun k => s.readBuf .ep0Out k) = .reject why →
      exec .irq s = .next { ep0Stalled s with irq := { s.irq with trn := rest } })

/-- 41_control_transfer.md R200, R203, R224, R225, R228, R229: a GET_DESCRIPTOR of the configuration, taken to its end by a
host that takes every packet, puts exactly the first min(length, wLength) bytes of the descriptor on the wire, in packets
of the endpoint-0 size but the last, with the toggles DATA1, DATA0, DATA1, …, and at least one packet. -/
def Obligations.DataStageSendsTheClippedSource : Prop :=
  ∀ (s : State) (q : SetupFields), q.wValue = 0x0200#16 → s.dev.state = .default → s.dev.suspended = false →
    s.irq.enable = true → s.irq.mask = 0x1B#8 → s.irq.trn = [] →
    s.irq.pending = { reset := false, error := false, activity := false, idle := false } →
    let n := min s.cfg.descConfig.length q.wLength.toNat
    let size := s.cfg.ep0Size.bytes
    ∃ t u sent, exec (.getDescriptor q) s = .next t ∧ inRounds (packetsOf n size) t = some u ∧
      u.wireIn = s.wireIn ++ sent ∧ sent.length = packetsOf n size ∧
      (sent.map Packet.data).flatten = s.cfg.descConfig.take n ∧
      (∀ j, (hj : j < sent.length) →
        (sent[j]).ep = .ep0 ∧ (sent[j]).dts = decide (j % 2 = 0) ∧ (sent[j]).data.length ≤ size ∧
        (j + 1 < sent.length → (sent[j]).data.length = size)) ∧
      u.ctl.inDone = true

/-! ### Commands (collateral) -/

/-- 43_command_protocol.md R324, R326, R330, R331, R342, R344: the commands that only answer: PING its 16 bytes and UNLOCK
the right key in both lock states, IDENTIFY and DIAGNOSTICS their records; and the modifier bits change nothing but the
command byte kept. That PING and UNLOCK may begin at AWAIT_ID with a whole header is the model's form (log 19), and what
an empty DIAGNOSTICS record does is its choice (log 24). -/
def Obligations.AnsweringCommandsSetTheirOutput : Prop :=
  ∀ (s : State) (mods : BitVec 3),
    (∀ data, data.length = 16 → begins s 0x01#5 →
      exec (.ping mods data) s =
        .next { s with sess := { entered s mods 0x01#5 data with out := data }, ret := .none }) ∧
    (∀ key, key.length = 16 → key = s.cfg.unlockKey → begins s 0x02#5 →
      exec (.unlock mods key) s =
        .next { s with sess := { entered s mods 0x02#5 key with unlocked := true, out := key }, ret := .none }) ∧
    (begins s 0x1D#5 → Config.diagFormat s.diag ≠ [] →
      exec (.diagnostics mods) s =
        .next { s with sess := { entered s mods 0x1D#5 [] with out := Config.diagFormat s.diag }, ret := .none }) ∧
    (begins s 0x1D#5 → Config.diagFormat s.diag = [] →
      exec (.diagnostics mods) s = .next { s with sess := ended (entered s mods 0x1D#5 []), ret := .none }) ∧
    (begins s 0x1F#5 →
      exec (.identify mods) s =
        .next { s with
          sess := { entered s mods 0x1F#5 [] with
            out := [0x99#8, s.cfg.blVersion.extractLsb' 0 8, s.cfg.blVersion.extractLsb' 8 8, s.cfg.fwMinor,
                    s.cfg.fwMajor] }
          ret := .none })

/-- 43_command_protocol.md R333, R334, 20_memory.md R97: READ and GET_MODE make one bus operation and answer what the bus
oracle gives. That the oracle is a list of inputs and the pin the low bit of one is the model's choice (log 11), and that
READ may begin at AWAIT_ID with a whole header is its form (log 19). -/
def Obligations.ReadingCommandsAskTheBusOnce : Prop :=
  ∀ (s : State) (mods : BitVec 3),
    (∀ addr, begins s 0x05#5 →
      ∃ v cart draws, answers s v cart draws ∧
        exec (.read mods addr) s =
          .next { s with
            busTrace := s.busTrace ++ [.read addr (mods.getLsbD 2) false], cart := cart, draws := draws
            sess := { entered s mods 0x05#5 [addr.extractLsb' 0 8, addr.extractLsb' 8 8] with out := [v] }
            ret := .none }) ∧
    (begins s 0x04#5 →
      ∃ v cart draws, answers s v cart draws ∧
        exec (.getMode mods) s =
          .next { s with
            busTrace := s.busTrace ++ [.pin], cart := cart, draws := draws
            sess := { entered s mods 0x04#5 [] with
              out := [s.sess.mode, if v.getLsbD 0 then 0x01#8 else 0x00#8] }
            ret := .none })

/-- 43_command_protocol.md R331, R332, R336, R343: the commands without output have their effect and end at once: WRITE one
bus write, SET_MODE the masked mode, RESET the staged reset with its magic, and UNLOCK with a wrong key nothing. That
each may begin at AWAIT_ID with a whole header is the model's form (log 19). -/
def Obligations.SilentCommandsActAndEnd : Prop :=
  ∀ (s : State) (mods : BitVec 3),
    (∀ addr data, begins s 0x07#5 →
      exec (.write mods addr data) s =
        .next { s with
          busTrace := s.busTrace ++ [.write addr data (mods.getLsbD 2) (mods.getLsbD 1)]
          sess := ended (entered s mods 0x07#5 [addr.extractLsb' 0 8, addr.extractLsb' 8 8, data])
          ret := .none }) ∧
    (∀ m, begins s 0x03#5 →
      exec (.setMode mods m) s =
        .next { s with
          busTrace := s.busTrace ++ [.mode (m &&& s.cfg.modeMask)]
          sess := { ended (entered s mods 0x03#5 [m]) with mode := m &&& s.cfg.modeMask }
          ret := .none }) ∧
    (∀ magic, begins s 0x1E#5 →
      exec (.reset mods magic) s =
        .next { s with
          resetReason := magic
          dev := { s.dev with pendingReset := true }
          sess := ended (entered s mods 0x1E#5 [magic])
          ret := .none }) ∧
    (∀ key, key ≠ s.cfg.unlockKey → begins s 0x02#5 →
      exec (.unlock mods key) s = .next { s with sess := ended (entered s mods 0x02#5 key), ret := .none })

/-- 43_command_protocol.md R335, R337, R338, R340, R341: the streaming commands load their counters, POLL_FLASH_DATA its
poll, SET_FLASH_WRITE_SEQUENCE its count; with more than 16 records the sequence stays and the command ends. That each may
begin at AWAIT_ID with a whole header is the model's form (log 19). -/
def Obligations.StreamingCommandsLoadTheirCounters : Prop :=
  ∀ (s : State) (mods : BitVec 3) (addr len : Word),
    (begins s 0x06#5 →
      exec (.readBurst mods addr len) s =
        .next { s with
          sess := { entered s mods 0x06#5 [addr.extractLsb' 0 8, addr.extractLsb' 8 8, len.extractLsb' 0 8,
                                           len.extractLsb' 8 8] with addr := addr, count := len }
          ret := .none }) ∧
    (begins s 0x08#5 →
      exec (.writeBurst mods addr len) s =
        .next { s with
          sess := { entered s mods 0x08#5 [addr.extractLsb' 0 8, addr.extractLsb' 8 8, len.extractLsb' 0 8,
                                           len.extractLsb' 8 8] with addr := addr, count := len }
          ret := .none }) ∧
    (begins s 0x0B#5 →
      exec (.flashBurst mods addr len) s =
        .next { s with
          sess := { entered s mods 0x0B#5 [addr.extractLsb' 0 8, addr.extractLsb' 8 8, len.extractLsb' 0 8,
                                           len.extractLsb' 8 8] with addr := addr, count := len }
          ret := .none }) ∧
    (∀ pol, begins s 0x09#5 →
      exec (.pollFlashData mods addr pol) s =
        .next { s with
          sess := { entered s mods 0x09#5 [addr.extractLsb' 0 8, addr.extractLsb' 8 8, pol] with
            poll := some { addr := addr, pol := pol.getLsbD 7, cs := mods.getLsbD 2 } }
          ret := .none }) ∧
    (∀ n, begins s 0x0A#5 → n.toNat ≤ 16 →
      exec (.setFlashWriteSequence mods n) s =
        .next { s with
          flashseq := { s.flashseq with count := n.toNat }
          sess := { entered s mods 0x0A#5 [n] with count := BitVec.ofNat 16 (3 * n.toNat) }
          ret := .none }) ∧
    (∀ n, begins s 0x0A#5 → 16 < n.toNat →
      exec (.setFlashWriteSequence mods n) s =
        .next { s with sess := ended (entered s mods 0x0A#5 [n]), ret := .none })

/-- 43_command_protocol.md R324, R346; log 19: at a command boundary while locked every lock-required command is discarded
with no effect; while a command runs no other begins. -/
def Obligations.LockedCommandsAreDiscarded : Prop :=
  ∀ (s : State) (mods : BitVec 3) (addr len : Word) (b : Byte) (k : List Byte),
    (s.sess.phase = .awaitId → s.sess.unlocked = false →
      ∀ i ∈ [Instr.setMode mods b, .getMode mods, .read mods addr, .readBurst mods addr len, .write mods addr b,
             .writeBurst mods addr len, .pollFlashData mods addr b, .setFlashWriteSequence mods b,
             .flashBurst mods addr len, .reset mods b], exec i s = .next { s with ret := .none }) ∧
    (s.sess.phase = .exec →
      ∀ i ∈ [Instr.ping mods k, .unlock mods k, .setMode mods b, .getMode mods, .read mods addr,
             .readBurst mods addr len, .write mods addr b, .writeBurst mods addr len, .pollFlashData mods addr b,
             .setFlashWriteSequence mods b, .flashBurst mods addr len, .diagnostics mods, .reset mods b,
             .identify mods], exec i s = .next { s with ret := .notEnabled })

/-- 43_command_protocol.md R335, R337, R340, R341, 30_encoding.md R126; log 1, 11, 13: the main-loop steps of each stream.
READ_BURST makes its one bus read in the step of a successful ACQ_TX and sends the byte in the next; WRITE_BURST makes one
bus write; SET_FLASH_WRITE_SEQUENCE stores one byte of one record; FLASH_BURST does nothing for 0xFF, and otherwise the
stored sequence, the write and the poll. The address and the count move on; at count 0 the command ends, FLASH_BURST after
sending [00 00]. -/
def Obligations.StreamStepsUseOneByte : Prop :=
  ∀ (s : State) (rest : List Turn), (s.port = .mainLoop :: rest ∨ (s.port = [] ∧ rest = [])) →
    s.main.asleep = false →
    (∀ t, s.main.point = .burstAcq → exec .acqTx { s with port := rest } = .next t →
      (∀ n, t.ret = .acquired true n →
        ∃ v cart draws, answers s v cart draws ∧
          step s = .next (goesTo
            { t with
              busTrace := s.busTrace ++ [.read s.sess.addr (s.sess.cmd.getLsbD 7) (s.sess.cmd.getLsbD 6)]
              cart := cart, draws := draws }
            (.burstPut v))) ∧
      (∀ n, t.ret = .acquired false n → step s = .next (goesTo t .flush))) ∧
    (∀ v t, s.main.point = .burstPut v → s.sess.count ≠ 0#16 → exec (.txPut v) { s with port := rest } = .next t →
      step s = .next (dispatched
        { t with sess := { s.sess with addr := s.sess.addr + 1#16, count := s.sess.count - 1#16 } })) ∧
    (∀ b x, s.rx.slice = some x → 1 ≤ x.len → s.sess.count ≠ 0#16 →
      (s.main.point = .rxTake .writeBurst b →
        step s = .next (dispatched
          { tookByte s x rest with
            busTrace := s.busTrace ++ [.write s.sess.addr b (s.sess.cmd.getLsbD 7) (s.sess.cmd.getLsbD 6)]
            sess := { s.sess with addr := s.sess.addr + 1#16, count := s.sess.count - 1#16 } })) ∧
      (s.main.point = .rxTake .flashBurst b → b = 0xFF#8 →
        step s = .next (dispatched
          { tookByte s x rest with
            sess := { s.sess with addr := s.sess.addr + 1#16, count := s.sess.count - 1#16 } })) ∧
      (s.main.point = .rxTake .flashBurst b → b ≠ 0xFF#8 →
        step s = .next (dispatched
          { tookByte s x rest with
            busTrace := s.busTrace ++
              (s.flashseq.recs.take s.flashseq.count).map
                (fun r => BusOp.write r.addr r.data (r.flags.getLsbD 2) (r.flags.getLsbD 1)) ++
              [.write s.sess.addr b (s.sess.cmd.getLsbD 7) (s.sess.cmd.getLsbD 6)]
            sess := { s.sess with
              addr := s.sess.addr + 1#16, count := s.sess.count - 1#16
              poll := some { addr := s.sess.addr, pol := b.getLsbD 7, cs := s.sess.cmd.getLsbD 7 } } })) ∧
      (s.main.point = .rxTake .writeSequence b →
        ∃ recs : List WriteRec,
          step s = .next (dispatched
            { tookByte s x rest with
              flashseq := { s.flashseq with recs := recs }
              sess := { s.sess with step := s.sess.step + 1, count := s.sess.count - 1#16 } }) ∧
          recs.length = s.flashseq.recs.length ∧
          (∀ j, j ≠ s.sess.step / 3 → recs[j]? = s.flashseq.recs[j]?) ∧
          ∀ r, s.flashseq.recs[s.sess.step / 3]? = some r →
            recs[s.sess.step / 3]? = some
              (if s.sess.step % 3 = 0 then
                { addr := r.addr.extractLsb' 8 8 ++ b, data := r.data, flags := s.sess.cmd.extractLsb' 5 3 }
              else if s.sess.step % 3 = 1 then
                { addr := b ++ r.addr.extractLsb' 0 8, data := r.data, flags := r.flags }
              else { addr := r.addr, data := b, flags := r.flags }))) ∧
    (s.main.point = .top → s.dev.configured = true → s.dev.suspended = false → s.dev.lineState = true →
      s.dev.pendingReset = false → s.sess.phase = .exec → s.sess.poll = none → s.sess.out = [] →
      s.sess.count = 0#16 →
      (s.sess.cmd.extractLsb' 0 5 ∈ [0x06#5, 0x08#5, 0x0A#5] →
        step s = .next (goesTo { s with port := rest, sess := ended s.sess, ret := .flag true } (.rxAcq .id))) ∧
      (s.sess.cmd.extractLsb' 0 5 = 0x0B#5 →
        step s = .next (goesTo
          { s with port := rest, sess := { s.sess with out := [0x00#8, 0x00#8], step := 0 }, ret := .flag true }
          (.emitAcq 0x00#8))))

/-- 43_command_protocol.md R321, R339, 20_memory.md R97; log 1, 11, 13: a main-loop step during a flash poll makes two reads,
each answered by the bus oracle; equal bytes of the right polarity end the poll, and POLL_FLASH_DATA answers the byte;
otherwise nothing but the trace, the inputs and the counter of free values changes. -/
def Obligations.PollStepReadsTwice : Prop :=
  ∀ (s : State) (rest : List Turn) (p : Poll),
    (s.port = .mainLoop :: rest ∨ (s.port = [] ∧ rest = [])) → s.main.asleep = false → s.main.point = .top →
    s.sess.poll = some p →
    ∃ a b cart draws cart2 draws2, answers s a cart draws ∧
      answers { s with cart := cart, draws := draws } b cart2 draws2 ∧
      (a = b → b.getLsbD 7 = p.pol →
        step s =
          .next { s with
            port := rest, cart := cart2, draws := draws2
            busTrace := s.busTrace ++ [.read p.addr p.cs false, .read p.addr p.cs false]
            sess := if s.sess.cmd.extractLsb' 0 5 = 0x09#5 then { s.sess with poll := none, out := [b], step := 0 }
                    else { s.sess with poll := none }
            ret := .none }) ∧
      ((a ≠ b ∨ b.getLsbD 7 ≠ p.pol) →
        step s =
          .next { s with
            port := rest, cart := cart2, draws := draws2
            busTrace := s.busTrace ++ [.read p.addr p.cs false, .read p.addr p.cs false], ret := .none })

/-! ### Invariants -/

/-- 10_state.md R75, 70_reset_and_hazards.md R421, R426: the power-on column of R75, field by field but for its draws, for every
parameter value and wherever the draws start; the state after reset is such a state and meets every invariant below. That
the port, the bus inputs and the listed bytes are empty, that nothing was returned and that the main loop is at ATTACH is
the model's choice (log 1, 4, 9, 11, 13, 33), as is `ctl.src` (log 12). -/
def Obligations.ResetStateIsWellKept : Prop :=
  (∀ (p : Params) (n : Nat),
    let t := State.powerOn p n
    t.dev = { state := .detached, suspended := false, configured := false, lineState := false, pendingReset := false,
              address := 0#7, clock := .normal } ∧
    t.irq = { mask := 0x00#8, savedMask := 0x00#8, enable := false, csStack := [],
              pending := { reset := false, error := false, activity := false, idle := false }, errBits := 0#6,
              trn := [] } ∧
    t.ctl = { dataStage := false, dirIn := false, srcKind := .none, src := .none, remaining := 0#16, offset := 0#16,
              toggle := true, inDone := false, pendingAddress := none, dest := none } ∧
    t.pipeArmed = false ∧
    t.rx = { busy := { even := false, odd := false }, next := false, eng := false, slice := none } ∧
    t.tx = { busy := { even := false, odd := false }, next := false, eng := false, slice := none, zlpOwed := false } ∧
    t.lc.length = 7 ∧
    (∀ e ∈ [t.diag.pid, t.diag.crc5, t.diag.crc16, t.diag.busTurnaround, t.diag.busTimeout, t.diag.dataToggle],
      e = { count := 0, sticky := false }) ∧
    t.main = { asleep := false, point := .attach } ∧ t.sie = { ppbiOut := false, ppbiIn := false } ∧
    t.sess = { unlocked := false, phase := .awaitId, cmd := 0#8, hdr := List.replicate 16 0#8, hdrFill := 0, hdrNeed := 0,
               addr := 0#16, count := 0#16, step := 0, out := [], poll := none, mode := 0x00#8 } ∧
    t.flashseq.count = 0 ∧ t.flashseq.recs.length = 16 ∧ t.busTrace = [] ∧ t.wireIn = [] ∧ t.cfg = p ∧
    t.buf = [] ∧ t.port = [] ∧ t.cart = [] ∧ t.ret = .none) ∧
  State.reset = State.powerOn Config.params 0 ∧ wellKept State.reset

/-- log 9, 10_state.md R54, R58, R59: every step keeps the canonical form of memory and the sizes of the records. -/
def Obligations.EveryStepKeepsMemoryCanonical : Prop :=
  ∀ s t : State, s.buf.wf = true → s.recordsSized → step s = .next t → t.buf.wf = true ∧ t.recordsSized

/-- 10_state.md R38, R40, R51, 20_memory.md R81: every step keeps counts and slices inside their buffers, and from such a
state no step reaches past the end of a buffer. -/
def Obligations.EveryStepStaysInsideTheBuffers : Prop :=
  (∀ s t : State, s.inBounds → step s = .next t → t.inBounds) ∧
  (∀ (s : State) (d : DescId) (k : Nat), s.inBounds → step s ≠ .fault (.noSuchByte d k))

/-- 10_state.md R31, 60_exceptions.md R385, R396: every step keeps the mask at the value the connection state gives, and the
main loop asleep only while the device is suspended. -/
def Obligations.EveryStepKeepsMaskAndSleepLegal : Prop :=
  ∀ s t : State, s.maskLegal → s.sleepLegal → step s = .next t → t.maskLegal ∧ t.sleepLegal

/-- 40_device_events.md R168, 41_control_transfer.md R222, 70_reset_and_hazards.md R440: every step leaves endpoint 0 ready
for a SETUP, or the completion of its OUT descriptor queued, and the interrupt endpoint stalled. -/
def Obligations.EveryStepLeavesEndpointZeroReady : Prop :=
  (∀ s t : State, s.ep0Ready → step s = .next t → t.ep0Ready) ∧
  (∀ s t : State, s.notifStalled → step s = .next t → t.notifStalled)

/-- 10_state.md R52, R53, R64, 42_bulk_pipe.md R283: every step keeps the pipe's flags, parities and slices in agreement with
the descriptors, the queued completions and the engine's pointers. -/
def Obligations.EveryStepKeepsThePipeLinked : Prop :=
  ∀ s t : State, s.pipeLinked → step s = .next t → t.pipeLinked

/-- 60_exceptions.md R382, 42_bulk_pipe.md R290, R291: from a state with the pipe linked no step raises F_PARITY_DESYNC or
F_COMPLETION_UNARMED, and F_UNEXPECTED_COMPLETION only for an IN completion of endpoint 0. -/
def Obligations.LinkedPipeRaisesNoBulkFault : Prop :=
  ∀ (s : State) (f : Fault), s.pipeLinked → step s = .fault f →
    (∀ d r e, f ≠ .parityDesync d r e) ∧ (∀ d h, f ≠ .completionUnarmed d h) ∧
    (∀ e, f = .unexpectedCompletion e → e.kind = .inp ∧ e.ep = .ep0)

/-- 42_bulk_pipe.md R298, 43_command_protocol.md R324, R346, R348(1), 95_test_vectors.md E1: every step keeps the lock safe;
while the session is locked no step adds to the bus trace, and none changes the mode or the stored sequence but for the
device reset of a staged reset, which clears the mode. -/
def Obligations.LockedSessionNeverReachesTheBus : Prop :=
  ∀ s t : State, s.lockSafe → step s = .next t →
    t.lockSafe ∧
    (s.sess.unlocked = false →
      t.busTrace = s.busTrace ∧
      ((t.sess.mode = s.sess.mode ∧ t.flashseq = s.flashseq) ∨
        (s.dev.pendingReset = true ∧ s.main.asleep = false ∧ t.dev.state = .detached ∧ t.main.point = .attach ∧
          t.sess.mode = 0x00#8)))

/-- 43_command_protocol.md R322, R325, R331, R347, 10_state.md R75, 42_bulk_pipe.md R298; log 1, 13: only a turn of the main
loop, awake and outside a running command, unlocks, and only where it takes the last byte of the header of an UNLOCK with
the right key; only a device reset, of a staged reset or of the watchdog during a flash poll, locks again. -/
def Obligations.OnlyTheKeyUnlocks : Prop :=
  ∀ s t : State, step s = .next t →
    (s.sess.unlocked = false → t.sess.unlocked = true →
      ∃ b mods, (s.port = [] ∨ s.port.head? = some .mainLoop) ∧ s.main.asleep = false ∧
        s.main.point = .rxTake .header b ∧ s.sess.phase ≠ .exec ∧ s.sess.hdrFill + 1 = s.sess.hdrNeed ∧
        decodeCommand (s.sess.cmd ::
          (s.sess.hdr.set s.sess.hdrFill b).take ((headerLen (commandId s.sess.cmd)).getD 0)) =
        .ok (.unlock mods s.cfg.unlockKey)) ∧
    (s.sess.unlocked = true → t.sess.unlocked = false →
      (s.dev.pendingReset = true ∨ s.sess.poll ≠ none) ∧ t.dev.state = .detached ∧ t.main.point = .attach)

/-! ### Rules of the whole machine -/

/-- 40_device_events.md R173, 10_state.md R60, R65, 00_scope.md R8: the connection state moves only along its sequence; what
the host has received and what went to the cartridge bus is never taken back; and no step changes a parameter. That the
two observation lists survive WATCHDOG's device reset is the model's choice (log 20). -/
def Obligations.StateMovesInSequenceAndObservationsOnlyGrow : Prop :=
  ∀ s t : State, step s = .next t →
    (t.dev.state = s.dev.state ∨ t.dev.state = .detached ∨ (s.dev.state = .detached ∧ t.dev.state = .attached) ∨
      (s.dev.state = .attached ∧ t.dev.state = .powered) ∨ (s.dev.state ≠ .detached ∧ t.dev.state = .default)) ∧
    s.wireIn <+: t.wireIn ∧ s.busTrace <+: t.busTrace ∧ t.cfg = s.cfg

/-- 10_state.md R29, R33, R55, 20_memory.md R84, 60_exceptions.md R385, R388: which operations can change the applied
address, the interrupt enable and the persisted byte. -/
def Obligations.WritersOfAddressEnableAndReason : Prop :=
  ∀ (i : Instr) (s t : State), exec i s = .next t →
    (t.dev.address ≠ s.dev.address →
      i ∈ [Instr.attach, .resetExec, .watchdog, .irq] ∧
      (t.dev.address = 0#7 ∨ (s.ctl.pendingAddress = some t.dev.address ∧ s.ctl.dataStage = false))) ∧
    (t.irq.enable ≠ s.irq.enable → i ∈ [Instr.attach, .csEnter, .csExit, .resetExec, .watchdog]) ∧
    (t.resetReason ≠ s.resetReason →
      t.dev.pendingReset = true ∧ (i = .irq ∨ (∃ q, i = .vendorReset q) ∨ ∃ mods magic, i = .reset mods magic))

/-- 70_reset_and_hazards.md R435: a main loop asleep with the interrupt disabled and no flash poll in progress stays so
whatever steps follow. -/
def Obligations.SleepInsideASectionIsNeverWoken : Prop :=
  ∀ s t : State, s.main.asleep = true → s.irq.enable = false → s.sess.poll = none → step s = .next t →
    t.main.asleep = true ∧ t.irq.enable = false ∧ t.sess.poll = none

/-- 42_bulk_pipe.md R280, R281, R282: a zero-length packet that is owed stays owed until FLUSH arms a packet of fewer than
64 bytes, or a step in which a bus reset, a device reset, ATTACH or SET_CONFIGURATION (itself or taken from the queue) has
cleared the pipe or set it up again; and FLUSH answers true only with nothing owed. -/
def Obligations.OwedPacketIsNotForgotten : Prop :=
  ∀ (i : Instr) (s t : State), s.txSliceFull → exec i s = .next t →
    (s.tx.zlpOwed = true → t.tx.zlpOwed = false →
      (i = .flush ∧ ∃ h n, n < 64 ∧ t.bd = s.bd.put (.bulkIn h) (armedBd (BitVec.ofNat 10 n) h) ∧
        t.tx.busy.get h = true) ∨
      ((i ∈ [Instr.attach, .resetExec, .watchdog] ∨ (∃ q, i = .setConfiguration q) ∨
          (i = .irq ∧ (irqTakes s .reset ∨
            (irqTakes s .trn ∧ ∃ e rest q, s.irq.trn = e :: rest ∧ e.kind = .setup ∧
              decodeSetup s.cfg ((List.range 8).map fun k => s.readBuf .ep0Out k) = .ok (.setConfiguration q))))) ∧
        t.tx = { busy := { even := false, odd := false }, next := false, eng := false, slice := none, zlpOwed := false } ∧
        t.rx.next = false ∧ t.rx.eng = false ∧ t.rx.slice = none)) ∧
    (i = .flush → t.ret = .flag true → t.tx.zlpOwed = false)

/-- 40_device_events.md R169, R170, 60_exceptions.md R384, R396: a suspend, the host's activity and the resume leave the block
as it was, but for the saved mask, the pending flags the two steps clear, and the value returned. -/
def Obligations.SuspendAndResumeRestoreTheBlock : Prop :=
  ∀ s : State, irqTakes s .idle → s.dev.suspended = false → s.dev.clock = .normal → s.main.asleep = false →
    s.irq.mask.getLsbD 7 = false →
    ∃ t u, exec .irq s = .next t ∧ exec .evActivity t = .next u ∧
      exec .irq u =
        .next { s with
          irq := { s.irq with
            savedMask := s.irq.mask, pending := { s.irq.pending with activity := false, idle := false } }
          ret := .none }

/-- 40_device_events.md R162, R163, 41_control_transfer.md R201, R225, 60_exceptions.md R382: a run of enabled acts in which
the host takes the packet armed on endpoint 0 after its next SETUP was already received ends, by the rules as written, in
F_UNEXPECTED_COMPLETION, which R225 and R382 say cannot occur (NOTES.md, Findings). -/
def Obligations.StaleInCompletionFaults : Prop :=
  ∀ (s : State) (packet : List Byte) (q : SetupFields), s.dev.state = .default → s.dev.suspended = false →
    s.dev.configured = true → s.irq.enable = true → s.irq.mask = 0x1B#8 → s.irq.trn = [] →
    s.irq.pending = { reset := false, error := false, activity := false, idle := false } →
    s.bd.ep0Out.own = .engine → s.bd.ep0In = armedBd 0#10 true →
    decodeSetup s.cfg packet = .ok (.setLineCoding q) → q.wLength ≠ 0#16 →
    ∃ t u v, exec (.evTrnSetup packet) s = .next t ∧ exec (.evTrnIn .ep0 false) t = .next u ∧
      exec .irq u = .next v ∧
      exec .irq v = .fault (.unexpectedCompletion { kind := .inp, ep := .ep0, half := false })
end

