-- ==== Sys2Proof/Laws/State.lean ====
section
/-! SUPPORT. One lemma per field per update of State: no later proof unfolds a record update. -/

set_option Elab.async false

namespace Sys2Proof.Machine

/-! ### setDev -/

@[simp] theorem State.setDev_dev (s : State) (v : Dev) : (s.setDev v).dev = v := rfl
@[simp] theorem State.setDev_irq (s : State) (v : Dev) : (s.setDev v).irq = s.irq := rfl
@[simp] theorem State.setDev_bd (s : State) (v : Dev) : (s.setDev v).bd = s.bd := rfl
@[simp] theorem State.setDev_buf (s : State) (v : Dev) : (s.setDev v).buf = s.buf := rfl
@[simp] theorem State.setDev_ctl (s : State) (v : Dev) : (s.setDev v).ctl = s.ctl := rfl
@[simp] theorem State.setDev_pipeArmed (s : State) (v : Dev) : (s.setDev v).pipeArmed = s.pipeArmed := rfl
@[simp] theorem State.setDev_rx (s : State) (v : Dev) : (s.setDev v).rx = s.rx := rfl
@[simp] theorem State.setDev_tx (s : State) (v : Dev) : (s.setDev v).tx = s.tx := rfl
@[simp] theorem State.setDev_lc (s : State) (v : Dev) : (s.setDev v).lc = s.lc := rfl
@[simp] theorem State.setDev_resetReason (s : State) (v : Dev) : (s.setDev v).resetReason = s.resetReason := rfl
@[simp] theorem State.setDev_diag (s : State) (v : Dev) : (s.setDev v).diag = s.diag := rfl
@[simp] theorem State.setDev_main (s : State) (v : Dev) : (s.setDev v).main = s.main := rfl
@[simp] theorem State.setDev_sie (s : State) (v : Dev) : (s.setDev v).sie = s.sie := rfl
@[simp] theorem State.setDev_wireIn (s : State) (v : Dev) : (s.setDev v).wireIn = s.wireIn := rfl
@[simp] theorem State.setDev_sess (s : State) (v : Dev) : (s.setDev v).sess = s.sess := rfl
@[simp] theorem State.setDev_flashseq (s : State) (v : Dev) : (s.setDev v).flashseq = s.flashseq := rfl
@[simp] theorem State.setDev_busTrace (s : State) (v : Dev) : (s.setDev v).busTrace = s.busTrace := rfl
@[simp] theorem State.setDev_cfg (s : State) (v : Dev) : (s.setDev v).cfg = s.cfg := rfl
@[simp] theorem State.setDev_port (s : State) (v : Dev) : (s.setDev v).port = s.port := rfl
@[simp] theorem State.setDev_cart (s : State) (v : Dev) : (s.setDev v).cart = s.cart := rfl
@[simp] theorem State.setDev_draws (s : State) (v : Dev) : (s.setDev v).draws = s.draws := rfl
@[simp] theorem State.setDev_epoch (s : State) (v : Dev) : (s.setDev v).epoch = s.epoch := rfl
@[simp] theorem State.setDev_ret (s : State) (v : Dev) : (s.setDev v).ret = s.ret := rfl

/-! ### setIrq -/

@[simp] theorem State.setIrq_dev (s : State) (v : Irq) : (s.setIrq v).dev = s.dev := rfl
@[simp] theorem State.setIrq_irq (s : State) (v : Irq) : (s.setIrq v).irq = v := rfl
@[simp] theorem State.setIrq_bd (s : State) (v : Irq) : (s.setIrq v).bd = s.bd := rfl
@[simp] theorem State.setIrq_buf (s : State) (v : Irq) : (s.setIrq v).buf = s.buf := rfl
@[simp] theorem State.setIrq_ctl (s : State) (v : Irq) : (s.setIrq v).ctl = s.ctl := rfl
@[simp] theorem State.setIrq_pipeArmed (s : State) (v : Irq) : (s.setIrq v).pipeArmed = s.pipeArmed := rfl
@[simp] theorem State.setIrq_rx (s : State) (v : Irq) : (s.setIrq v).rx = s.rx := rfl
@[simp] theorem State.setIrq_tx (s : State) (v : Irq) : (s.setIrq v).tx = s.tx := rfl
@[simp] theorem State.setIrq_lc (s : State) (v : Irq) : (s.setIrq v).lc = s.lc := rfl
@[simp] theorem State.setIrq_resetReason (s : State) (v : Irq) : (s.setIrq v).resetReason = s.resetReason := rfl
@[simp] theorem State.setIrq_diag (s : State) (v : Irq) : (s.setIrq v).diag = s.diag := rfl
@[simp] theorem State.setIrq_main (s : State) (v : Irq) : (s.setIrq v).main = s.main := rfl
@[simp] theorem State.setIrq_sie (s : State) (v : Irq) : (s.setIrq v).sie = s.sie := rfl
@[simp] theorem State.setIrq_wireIn (s : State) (v : Irq) : (s.setIrq v).wireIn = s.wireIn := rfl
@[simp] theorem State.setIrq_sess (s : State) (v : Irq) : (s.setIrq v).sess = s.sess := rfl
@[simp] theorem State.setIrq_flashseq (s : State) (v : Irq) : (s.setIrq v).flashseq = s.flashseq := rfl
@[simp] theorem State.setIrq_busTrace (s : State) (v : Irq) : (s.setIrq v).busTrace = s.busTrace := rfl
@[simp] theorem State.setIrq_cfg (s : State) (v : Irq) : (s.setIrq v).cfg = s.cfg := rfl
@[simp] theorem State.setIrq_port (s : State) (v : Irq) : (s.setIrq v).port = s.port := rfl
@[simp] theorem State.setIrq_cart (s : State) (v : Irq) : (s.setIrq v).cart = s.cart := rfl
@[simp] theorem State.setIrq_draws (s : State) (v : Irq) : (s.setIrq v).draws = s.draws := rfl
@[simp] theorem State.setIrq_epoch (s : State) (v : Irq) : (s.setIrq v).epoch = s.epoch := rfl
@[simp] theorem State.setIrq_ret (s : State) (v : Irq) : (s.setIrq v).ret = s.ret := rfl

/-! ### setBd -/

@[simp] theorem State.setBd_dev (s : State) (v : BdTable) : (s.setBd v).dev = s.dev := rfl
@[simp] theorem State.setBd_irq (s : State) (v : BdTable) : (s.setBd v).irq = s.irq := rfl
@[simp] theorem State.setBd_bd (s : State) (v : BdTable) : (s.setBd v).bd = v := rfl
@[simp] theorem State.setBd_buf (s : State) (v : BdTable) : (s.setBd v).buf = s.buf := rfl
@[simp] theorem State.setBd_ctl (s : State) (v : BdTable) : (s.setBd v).ctl = s.ctl := rfl
@[simp] theorem State.setBd_pipeArmed (s : State) (v : BdTable) : (s.setBd v).pipeArmed = s.pipeArmed := rfl
@[simp] theorem State.setBd_rx (s : State) (v : BdTable) : (s.setBd v).rx = s.rx := rfl
@[simp] theorem State.setBd_tx (s : State) (v : BdTable) : (s.setBd v).tx = s.tx := rfl
@[simp] theorem State.setBd_lc (s : State) (v : BdTable) : (s.setBd v).lc = s.lc := rfl
@[simp] theorem State.setBd_resetReason (s : State) (v : BdTable) : (s.setBd v).resetReason = s.resetReason := rfl
@[simp] theorem State.setBd_diag (s : State) (v : BdTable) : (s.setBd v).diag = s.diag := rfl
@[simp] theorem State.setBd_main (s : State) (v : BdTable) : (s.setBd v).main = s.main := rfl
@[simp] theorem State.setBd_sie (s : State) (v : BdTable) : (s.setBd v).sie = s.sie := rfl
@[simp] theorem State.setBd_wireIn (s : State) (v : BdTable) : (s.setBd v).wireIn = s.wireIn := rfl
@[simp] theorem State.setBd_sess (s : State) (v : BdTable) : (s.setBd v).sess = s.sess := rfl
@[simp] theorem State.setBd_flashseq (s : State) (v : BdTable) : (s.setBd v).flashseq = s.flashseq := rfl
@[simp] theorem State.setBd_busTrace (s : State) (v : BdTable) : (s.setBd v).busTrace = s.busTrace := rfl
@[simp] theorem State.setBd_cfg (s : State) (v : BdTable) : (s.setBd v).cfg = s.cfg := rfl
@[simp] theorem State.setBd_port (s : State) (v : BdTable) : (s.setBd v).port = s.port := rfl
@[simp] theorem State.setBd_cart (s : State) (v : BdTable) : (s.setBd v).cart = s.cart := rfl
@[simp] theorem State.setBd_draws (s : State) (v : BdTable) : (s.setBd v).draws = s.draws := rfl
@[simp] theorem State.setBd_epoch (s : State) (v : BdTable) : (s.setBd v).epoch = s.epoch := rfl
@[simp] theorem State.setBd_ret (s : State) (v : BdTable) : (s.setBd v).ret = s.ret := rfl

/-! ### setBuf -/

@[simp] theorem State.setBuf_dev (s : State) (v : Memory) : (s.setBuf v).dev = s.dev := rfl
@[simp] theorem State.setBuf_irq (s : State) (v : Memory) : (s.setBuf v).irq = s.irq := rfl
@[simp] theorem State.setBuf_bd (s : State) (v : Memory) : (s.setBuf v).bd = s.bd := rfl
@[simp] theorem State.setBuf_buf (s : State) (v : Memory) : (s.setBuf v).buf = v := rfl
@[simp] theorem State.setBuf_ctl (s : State) (v : Memory) : (s.setBuf v).ctl = s.ctl := rfl
@[simp] theorem State.setBuf_pipeArmed (s : State) (v : Memory) : (s.setBuf v).pipeArmed = s.pipeArmed := rfl
@[simp] theorem State.setBuf_rx (s : State) (v : Memory) : (s.setBuf v).rx = s.rx := rfl
@[simp] theorem State.setBuf_tx (s : State) (v : Memory) : (s.setBuf v).tx = s.tx := rfl
@[simp] theorem State.setBuf_lc (s : State) (v : Memory) : (s.setBuf v).lc = s.lc := rfl
@[simp] theorem State.setBuf_resetReason (s : State) (v : Memory) : (s.setBuf v).resetReason = s.resetReason := rfl
@[simp] theorem State.setBuf_diag (s : State) (v : Memory) : (s.setBuf v).diag = s.diag := rfl
@[simp] theorem State.setBuf_main (s : State) (v : Memory) : (s.setBuf v).main = s.main := rfl
@[simp] theorem State.setBuf_sie (s : State) (v : Memory) : (s.setBuf v).sie = s.sie := rfl
@[simp] theorem State.setBuf_wireIn (s : State) (v : Memory) : (s.setBuf v).wireIn = s.wireIn := rfl
@[simp] theorem State.setBuf_sess (s : State) (v : Memory) : (s.setBuf v).sess = s.sess := rfl
@[simp] theorem State.setBuf_flashseq (s : State) (v : Memory) : (s.setBuf v).flashseq = s.flashseq := rfl
@[simp] theorem State.setBuf_busTrace (s : State) (v : Memory) : (s.setBuf v).busTrace = s.busTrace := rfl
@[simp] theorem State.setBuf_cfg (s : State) (v : Memory) : (s.setBuf v).cfg = s.cfg := rfl
@[simp] theorem State.setBuf_port (s : State) (v : Memory) : (s.setBuf v).port = s.port := rfl
@[simp] theorem State.setBuf_cart (s : State) (v : Memory) : (s.setBuf v).cart = s.cart := rfl
@[simp] theorem State.setBuf_draws (s : State) (v : Memory) : (s.setBuf v).draws = s.draws := rfl
@[simp] theorem State.setBuf_epoch (s : State) (v : Memory) : (s.setBuf v).epoch = s.epoch := rfl
@[simp] theorem State.setBuf_ret (s : State) (v : Memory) : (s.setBuf v).ret = s.ret := rfl

/-! ### setCtl -/

@[simp] theorem State.setCtl_dev (s : State) (v : Ctl) : (s.setCtl v).dev = s.dev := rfl
@[simp] theorem State.setCtl_irq (s : State) (v : Ctl) : (s.setCtl v).irq = s.irq := rfl
@[simp] theorem State.setCtl_bd (s : State) (v : Ctl) : (s.setCtl v).bd = s.bd := rfl
@[simp] theorem State.setCtl_buf (s : State) (v : Ctl) : (s.setCtl v).buf = s.buf := rfl
@[simp] theorem State.setCtl_ctl (s : State) (v : Ctl) : (s.setCtl v).ctl = v := rfl
@[simp] theorem State.setCtl_pipeArmed (s : State) (v : Ctl) : (s.setCtl v).pipeArmed = s.pipeArmed := rfl
@[simp] theorem State.setCtl_rx (s : State) (v : Ctl) : (s.setCtl v).rx = s.rx := rfl
@[simp] theorem State.setCtl_tx (s : State) (v : Ctl) : (s.setCtl v).tx = s.tx := rfl
@[simp] theorem State.setCtl_lc (s : State) (v : Ctl) : (s.setCtl v).lc = s.lc := rfl
@[simp] theorem State.setCtl_resetReason (s : State) (v : Ctl) : (s.setCtl v).resetReason = s.resetReason := rfl
@[simp] theorem State.setCtl_diag (s : State) (v : Ctl) : (s.setCtl v).diag = s.diag := rfl
@[simp] theorem State.setCtl_main (s : State) (v : Ctl) : (s.setCtl v).main = s.main := rfl
@[simp] theorem State.setCtl_sie (s : State) (v : Ctl) : (s.setCtl v).sie = s.sie := rfl
@[simp] theorem State.setCtl_wireIn (s : State) (v : Ctl) : (s.setCtl v).wireIn = s.wireIn := rfl
@[simp] theorem State.setCtl_sess (s : State) (v : Ctl) : (s.setCtl v).sess = s.sess := rfl
@[simp] theorem State.setCtl_flashseq (s : State) (v : Ctl) : (s.setCtl v).flashseq = s.flashseq := rfl
@[simp] theorem State.setCtl_busTrace (s : State) (v : Ctl) : (s.setCtl v).busTrace = s.busTrace := rfl
@[simp] theorem State.setCtl_cfg (s : State) (v : Ctl) : (s.setCtl v).cfg = s.cfg := rfl
@[simp] theorem State.setCtl_port (s : State) (v : Ctl) : (s.setCtl v).port = s.port := rfl
@[simp] theorem State.setCtl_cart (s : State) (v : Ctl) : (s.setCtl v).cart = s.cart := rfl
@[simp] theorem State.setCtl_draws (s : State) (v : Ctl) : (s.setCtl v).draws = s.draws := rfl
@[simp] theorem State.setCtl_epoch (s : State) (v : Ctl) : (s.setCtl v).epoch = s.epoch := rfl
@[simp] theorem State.setCtl_ret (s : State) (v : Ctl) : (s.setCtl v).ret = s.ret := rfl

/-! ### setPipeArmed -/

@[simp] theorem State.setPipeArmed_dev (s : State) (v : Bool) : (s.setPipeArmed v).dev = s.dev := rfl
@[simp] theorem State.setPipeArmed_irq (s : State) (v : Bool) : (s.setPipeArmed v).irq = s.irq := rfl
@[simp] theorem State.setPipeArmed_bd (s : State) (v : Bool) : (s.setPipeArmed v).bd = s.bd := rfl
@[simp] theorem State.setPipeArmed_buf (s : State) (v : Bool) : (s.setPipeArmed v).buf = s.buf := rfl
@[simp] theorem State.setPipeArmed_ctl (s : State) (v : Bool) : (s.setPipeArmed v).ctl = s.ctl := rfl
@[simp] theorem State.setPipeArmed_pipeArmed (s : State) (v : Bool) : (s.setPipeArmed v).pipeArmed = v := rfl
@[simp] theorem State.setPipeArmed_rx (s : State) (v : Bool) : (s.setPipeArmed v).rx = s.rx := rfl
@[simp] theorem State.setPipeArmed_tx (s : State) (v : Bool) : (s.setPipeArmed v).tx = s.tx := rfl
@[simp] theorem State.setPipeArmed_lc (s : State) (v : Bool) : (s.setPipeArmed v).lc = s.lc := rfl
@[simp] theorem State.setPipeArmed_resetReason (s : State) (v : Bool) : (s.setPipeArmed v).resetReason = s.resetReason := rfl
@[simp] theorem State.setPipeArmed_diag (s : State) (v : Bool) : (s.setPipeArmed v).diag = s.diag := rfl
@[simp] theorem State.setPipeArmed_main (s : State) (v : Bool) : (s.setPipeArmed v).main = s.main := rfl
@[simp] theorem State.setPipeArmed_sie (s : State) (v : Bool) : (s.setPipeArmed v).sie = s.sie := rfl
@[simp] theorem State.setPipeArmed_wireIn (s : State) (v : Bool) : (s.setPipeArmed v).wireIn = s.wireIn := rfl
@[simp] theorem State.setPipeArmed_sess (s : State) (v : Bool) : (s.setPipeArmed v).sess = s.sess := rfl
@[simp] theorem State.setPipeArmed_flashseq (s : State) (v : Bool) : (s.setPipeArmed v).flashseq = s.flashseq := rfl
@[simp] theorem State.setPipeArmed_busTrace (s : State) (v : Bool) : (s.setPipeArmed v).busTrace = s.busTrace := rfl
@[simp] theorem State.setPipeArmed_cfg (s : State) (v : Bool) : (s.setPipeArmed v).cfg = s.cfg := rfl
@[simp] theorem State.setPipeArmed_port (s : State) (v : Bool) : (s.setPipeArmed v).port = s.port := rfl
@[simp] theorem State.setPipeArmed_cart (s : State) (v : Bool) : (s.setPipeArmed v).cart = s.cart := rfl
@[simp] theorem State.setPipeArmed_draws (s : State) (v : Bool) : (s.setPipeArmed v).draws = s.draws := rfl
@[simp] theorem State.setPipeArmed_epoch (s : State) (v : Bool) : (s.setPipeArmed v).epoch = s.epoch := rfl
@[simp] theorem State.setPipeArmed_ret (s : State) (v : Bool) : (s.setPipeArmed v).ret = s.ret := rfl

/-! ### setRx -/

@[simp] theorem State.setRx_dev (s : State) (v : Rx) : (s.setRx v).dev = s.dev := rfl
@[simp] theorem State.setRx_irq (s : State) (v : Rx) : (s.setRx v).irq = s.irq := rfl
@[simp] theorem State.setRx_bd (s : State) (v : Rx) : (s.setRx v).bd = s.bd := rfl
@[simp] theorem State.setRx_buf (s : State) (v : Rx) : (s.setRx v).buf = s.buf := rfl
@[simp] theorem State.setRx_ctl (s : State) (v : Rx) : (s.setRx v).ctl = s.ctl := rfl
@[simp] theorem State.setRx_pipeArmed (s : State) (v : Rx) : (s.setRx v).pipeArmed = s.pipeArmed := rfl
@[simp] theorem State.setRx_rx (s : State) (v : Rx) : (s.setRx v).rx = v := rfl
@[simp] theorem State.setRx_tx (s : State) (v : Rx) : (s.setRx v).tx = s.tx := rfl
@[simp] theorem State.setRx_lc (s : State) (v : Rx) : (s.setRx v).lc = s.lc := rfl
@[simp] theorem State.setRx_resetReason (s : State) (v : Rx) : (s.setRx v).resetReason = s.resetReason := rfl
@[simp] theorem State.setRx_diag (s : State) (v : Rx) : (s.setRx v).diag = s.diag := rfl
@[simp] theorem State.setRx_main (s : State) (v : Rx) : (s.setRx v).main = s.main := rfl
@[simp] theorem State.setRx_sie (s : State) (v : Rx) : (s.setRx v).sie = s.sie := rfl
@[simp] theorem State.setRx_wireIn (s : State) (v : Rx) : (s.setRx v).wireIn = s.wireIn := rfl
@[simp] theorem State.setRx_sess (s : State) (v : Rx) : (s.setRx v).sess = s.sess := rfl
@[simp] theorem State.setRx_flashseq (s : State) (v : Rx) : (s.setRx v).flashseq = s.flashseq := rfl
@[simp] theorem State.setRx_busTrace (s : State) (v : Rx) : (s.setRx v).busTrace = s.busTrace := rfl
@[simp] theorem State.setRx_cfg (s : State) (v : Rx) : (s.setRx v).cfg = s.cfg := rfl
@[simp] theorem State.setRx_port (s : State) (v : Rx) : (s.setRx v).port = s.port := rfl
@[simp] theorem State.setRx_cart (s : State) (v : Rx) : (s.setRx v).cart = s.cart := rfl
@[simp] theorem State.setRx_draws (s : State) (v : Rx) : (s.setRx v).draws = s.draws := rfl
@[simp] theorem State.setRx_epoch (s : State) (v : Rx) : (s.setRx v).epoch = s.epoch := rfl
@[simp] theorem State.setRx_ret (s : State) (v : Rx) : (s.setRx v).ret = s.ret := rfl

/-! ### setTx -/

@[simp] theorem State.setTx_dev (s : State) (v : Tx) : (s.setTx v).dev = s.dev := rfl
@[simp] theorem State.setTx_irq (s : State) (v : Tx) : (s.setTx v).irq = s.irq := rfl
@[simp] theorem State.setTx_bd (s : State) (v : Tx) : (s.setTx v).bd = s.bd := rfl
@[simp] theorem State.setTx_buf (s : State) (v : Tx) : (s.setTx v).buf = s.buf := rfl
@[simp] theorem State.setTx_ctl (s : State) (v : Tx) : (s.setTx v).ctl = s.ctl := rfl
@[simp] theorem State.setTx_pipeArmed (s : State) (v : Tx) : (s.setTx v).pipeArmed = s.pipeArmed := rfl
@[simp] theorem State.setTx_rx (s : State) (v : Tx) : (s.setTx v).rx = s.rx := rfl
@[simp] theorem State.setTx_tx (s : State) (v : Tx) : (s.setTx v).tx = v := rfl
@[simp] theorem State.setTx_lc (s : State) (v : Tx) : (s.setTx v).lc = s.lc := rfl
@[simp] theorem State.setTx_resetReason (s : State) (v : Tx) : (s.setTx v).resetReason = s.resetReason := rfl
@[simp] theorem State.setTx_diag (s : State) (v : Tx) : (s.setTx v).diag = s.diag := rfl
@[simp] theorem State.setTx_main (s : State) (v : Tx) : (s.setTx v).main = s.main := rfl
@[simp] theorem State.setTx_sie (s : State) (v : Tx) : (s.setTx v).sie = s.sie := rfl
@[simp] theorem State.setTx_wireIn (s : State) (v : Tx) : (s.setTx v).wireIn = s.wireIn := rfl
@[simp] theorem State.setTx_sess (s : State) (v : Tx) : (s.setTx v).sess = s.sess := rfl
@[simp] theorem State.setTx_flashseq (s : State) (v : Tx) : (s.setTx v).flashseq = s.flashseq := rfl
@[simp] theorem State.setTx_busTrace (s : State) (v : Tx) : (s.setTx v).busTrace = s.busTrace := rfl
@[simp] theorem State.setTx_cfg (s : State) (v : Tx) : (s.setTx v).cfg = s.cfg := rfl
@[simp] theorem State.setTx_port (s : State) (v : Tx) : (s.setTx v).port = s.port := rfl
@[simp] theorem State.setTx_cart (s : State) (v : Tx) : (s.setTx v).cart = s.cart := rfl
@[simp] theorem State.setTx_draws (s : State) (v : Tx) : (s.setTx v).draws = s.draws := rfl
@[simp] theorem State.setTx_epoch (s : State) (v : Tx) : (s.setTx v).epoch = s.epoch := rfl
@[simp] theorem State.setTx_ret (s : State) (v : Tx) : (s.setTx v).ret = s.ret := rfl

/-! ### setLc -/

@[simp] theorem State.setLc_dev (s : State) (v : List Byte) : (s.setLc v).dev = s.dev := rfl
@[simp] theorem State.setLc_irq (s : State) (v : List Byte) : (s.setLc v).irq = s.irq := rfl
@[simp] theorem State.setLc_bd (s : State) (v : List Byte) : (s.setLc v).bd = s.bd := rfl
@[simp] theorem State.setLc_buf (s : State) (v : List Byte) : (s.setLc v).buf = s.buf := rfl
@[simp] theorem State.setLc_ctl (s : State) (v : List Byte) : (s.setLc v).ctl = s.ctl := rfl
@[simp] theorem State.setLc_pipeArmed (s : State) (v : List Byte) : (s.setLc v).pipeArmed = s.pipeArmed := rfl
@[simp] theorem State.setLc_rx (s : State) (v : List Byte) : (s.setLc v).rx = s.rx := rfl
@[simp] theorem State.setLc_tx (s : State) (v : List Byte) : (s.setLc v).tx = s.tx := rfl
@[simp] theorem State.setLc_lc (s : State) (v : List Byte) : (s.setLc v).lc = v := rfl
@[simp] theorem State.setLc_resetReason (s : State) (v : List Byte) : (s.setLc v).resetReason = s.resetReason := rfl
@[simp] theorem State.setLc_diag (s : State) (v : List Byte) : (s.setLc v).diag = s.diag := rfl
@[simp] theorem State.setLc_main (s : State) (v : List Byte) : (s.setLc v).main = s.main := rfl
@[simp] theorem State.setLc_sie (s : State) (v : List Byte) : (s.setLc v).sie = s.sie := rfl
@[simp] theorem State.setLc_wireIn (s : State) (v : List Byte) : (s.setLc v).wireIn = s.wireIn := rfl
@[simp] theorem State.setLc_sess (s : State) (v : List Byte) : (s.setLc v).sess = s.sess := rfl
@[simp] theorem State.setLc_flashseq (s : State) (v : List Byte) : (s.setLc v).flashseq = s.flashseq := rfl
@[simp] theorem State.setLc_busTrace (s : State) (v : List Byte) : (s.setLc v).busTrace = s.busTrace := rfl
@[simp] theorem State.setLc_cfg (s : State) (v : List Byte) : (s.setLc v).cfg = s.cfg := rfl
@[simp] theorem State.setLc_port (s : State) (v : List Byte) : (s.setLc v).port = s.port := rfl
@[simp] theorem State.setLc_cart (s : State) (v : List Byte) : (s.setLc v).cart = s.cart := rfl
@[simp] theorem State.setLc_draws (s : State) (v : List Byte) : (s.setLc v).draws = s.draws := rfl
@[simp] theorem State.setLc_epoch (s : State) (v : List Byte) : (s.setLc v).epoch = s.epoch := rfl
@[simp] theorem State.setLc_ret (s : State) (v : List Byte) : (s.setLc v).ret = s.ret := rfl

/-! ### setResetReason -/

@[simp] theorem State.setResetReason_dev (s : State) (v : Byte) : (s.setResetReason v).dev = s.dev := rfl
@[simp] theorem State.setResetReason_irq (s : State) (v : Byte) : (s.setResetReason v).irq = s.irq := rfl
@[simp] theorem State.setResetReason_bd (s : State) (v : Byte) : (s.setResetReason v).bd = s.bd := rfl
@[simp] theorem State.setResetReason_buf (s : State) (v : Byte) : (s.setResetReason v).buf = s.buf := rfl
@[simp] theorem State.setResetReason_ctl (s : State) (v : Byte) : (s.setResetReason v).ctl = s.ctl := rfl
@[simp] theorem State.setResetReason_pipeArmed (s : State) (v : Byte) : (s.setResetReason v).pipeArmed = s.pipeArmed := rfl
@[simp] theorem State.setResetReason_rx (s : State) (v : Byte) : (s.setResetReason v).rx = s.rx := rfl
@[simp] theorem State.setResetReason_tx (s : State) (v : Byte) : (s.setResetReason v).tx = s.tx := rfl
@[simp] theorem State.setResetReason_lc (s : State) (v : Byte) : (s.setResetReason v).lc = s.lc := rfl
@[simp] theorem State.setResetReason_resetReason (s : State) (v : Byte) : (s.setResetReason v).resetReason = v := rfl
@[simp] theorem State.setResetReason_diag (s : State) (v : Byte) : (s.setResetReason v).diag = s.diag := rfl
@[simp] theorem State.setResetReason_main (s : State) (v : Byte) : (s.setResetReason v).main = s.main := rfl
@[simp] theorem State.setResetReason_sie (s : State) (v : Byte) : (s.setResetReason v).sie = s.sie := rfl
@[simp] theorem State.setResetReason_wireIn (s : State) (v : Byte) : (s.setResetReason v).wireIn = s.wireIn := rfl
@[simp] theorem State.setResetReason_sess (s : State) (v : Byte) : (s.setResetReason v).sess = s.sess := rfl
@[simp] theorem State.setResetReason_flashseq (s : State) (v : Byte) : (s.setResetReason v).flashseq = s.flashseq := rfl
@[simp] theorem State.setResetReason_busTrace (s : State) (v : Byte) : (s.setResetReason v).busTrace = s.busTrace := rfl
@[simp] theorem State.setResetReason_cfg (s : State) (v : Byte) : (s.setResetReason v).cfg = s.cfg := rfl
@[simp] theorem State.setResetReason_port (s : State) (v : Byte) : (s.setResetReason v).port = s.port := rfl
@[simp] theorem State.setResetReason_cart (s : State) (v : Byte) : (s.setResetReason v).cart = s.cart := rfl
@[simp] theorem State.setResetReason_draws (s : State) (v : Byte) : (s.setResetReason v).draws = s.draws := rfl
@[simp] theorem State.setResetReason_epoch (s : State) (v : Byte) : (s.setResetReason v).epoch = s.epoch := rfl
@[simp] theorem State.setResetReason_ret (s : State) (v : Byte) : (s.setResetReason v).ret = s.ret := rfl

/-! ### setDiag -/

@[simp] theorem State.setDiag_dev (s : State) (v : Diag) : (s.setDiag v).dev = s.dev := rfl
@[simp] theorem State.setDiag_irq (s : State) (v : Diag) : (s.setDiag v).irq = s.irq := rfl
@[simp] theorem State.setDiag_bd (s : State) (v : Diag) : (s.setDiag v).bd = s.bd := rfl
@[simp] theorem State.setDiag_buf (s : State) (v : Diag) : (s.setDiag v).buf = s.buf := rfl
@[simp] theorem State.setDiag_ctl (s : State) (v : Diag) : (s.setDiag v).ctl = s.ctl := rfl
@[simp] theorem State.setDiag_pipeArmed (s : State) (v : Diag) : (s.setDiag v).pipeArmed = s.pipeArmed := rfl
@[simp] theorem State.setDiag_rx (s : State) (v : Diag) : (s.setDiag v).rx = s.rx := rfl
@[simp] theorem State.setDiag_tx (s : State) (v : Diag) : (s.setDiag v).tx = s.tx := rfl
@[simp] theorem State.setDiag_lc (s : State) (v : Diag) : (s.setDiag v).lc = s.lc := rfl
@[simp] theorem State.setDiag_resetReason (s : State) (v : Diag) : (s.setDiag v).resetReason = s.resetReason := rfl
@[simp] theorem State.setDiag_diag (s : State) (v : Diag) : (s.setDiag v).diag = v := rfl
@[simp] theorem State.setDiag_main (s : State) (v : Diag) : (s.setDiag v).main = s.main := rfl
@[simp] theorem State.setDiag_sie (s : State) (v : Diag) : (s.setDiag v).sie = s.sie := rfl
@[simp] theorem State.setDiag_wireIn (s : State) (v : Diag) : (s.setDiag v).wireIn = s.wireIn := rfl
@[simp] theorem State.setDiag_sess (s : State) (v : Diag) : (s.setDiag v).sess = s.sess := rfl
@[simp] theorem State.setDiag_flashseq (s : State) (v : Diag) : (s.setDiag v).flashseq = s.flashseq := rfl
@[simp] theorem State.setDiag_busTrace (s : State) (v : Diag) : (s.setDiag v).busTrace = s.busTrace := rfl
@[simp] theorem State.setDiag_cfg (s : State) (v : Diag) : (s.setDiag v).cfg = s.cfg := rfl
@[simp] theorem State.setDiag_port (s : State) (v : Diag) : (s.setDiag v).port = s.port := rfl
@[simp] theorem State.setDiag_cart (s : State) (v : Diag) : (s.setDiag v).cart = s.cart := rfl
@[simp] theorem State.setDiag_draws (s : State) (v : Diag) : (s.setDiag v).draws = s.draws := rfl
@[simp] theorem State.setDiag_epoch (s : State) (v : Diag) : (s.setDiag v).epoch = s.epoch := rfl
@[simp] theorem State.setDiag_ret (s : State) (v : Diag) : (s.setDiag v).ret = s.ret := rfl

/-! ### setMain -/

@[simp] theorem State.setMain_dev (s : State) (v : Main) : (s.setMain v).dev = s.dev := rfl
@[simp] theorem State.setMain_irq (s : State) (v : Main) : (s.setMain v).irq = s.irq := rfl
@[simp] theorem State.setMain_bd (s : State) (v : Main) : (s.setMain v).bd = s.bd := rfl
@[simp] theorem State.setMain_buf (s : State) (v : Main) : (s.setMain v).buf = s.buf := rfl
@[simp] theorem State.setMain_ctl (s : State) (v : Main) : (s.setMain v).ctl = s.ctl := rfl
@[simp] theorem State.setMain_pipeArmed (s : State) (v : Main) : (s.setMain v).pipeArmed = s.pipeArmed := rfl
@[simp] theorem State.setMain_rx (s : State) (v : Main) : (s.setMain v).rx = s.rx := rfl
@[simp] theorem State.setMain_tx (s : State) (v : Main) : (s.setMain v).tx = s.tx := rfl
@[simp] theorem State.setMain_lc (s : State) (v : Main) : (s.setMain v).lc = s.lc := rfl
@[simp] theorem State.setMain_resetReason (s : State) (v : Main) : (s.setMain v).resetReason = s.resetReason := rfl
@[simp] theorem State.setMain_diag (s : State) (v : Main) : (s.setMain v).diag = s.diag := rfl
@[simp] theorem State.setMain_main (s : State) (v : Main) : (s.setMain v).main = v := rfl
@[simp] theorem State.setMain_sie (s : State) (v : Main) : (s.setMain v).sie = s.sie := rfl
@[simp] theorem State.setMain_wireIn (s : State) (v : Main) : (s.setMain v).wireIn = s.wireIn := rfl
@[simp] theorem State.setMain_sess (s : State) (v : Main) : (s.setMain v).sess = s.sess := rfl
@[simp] theorem State.setMain_flashseq (s : State) (v : Main) : (s.setMain v).flashseq = s.flashseq := rfl
@[simp] theorem State.setMain_busTrace (s : State) (v : Main) : (s.setMain v).busTrace = s.busTrace := rfl
@[simp] theorem State.setMain_cfg (s : State) (v : Main) : (s.setMain v).cfg = s.cfg := rfl
@[simp] theorem State.setMain_port (s : State) (v : Main) : (s.setMain v).port = s.port := rfl
@[simp] theorem State.setMain_cart (s : State) (v : Main) : (s.setMain v).cart = s.cart := rfl
@[simp] theorem State.setMain_draws (s : State) (v : Main) : (s.setMain v).draws = s.draws := rfl
@[simp] theorem State.setMain_epoch (s : State) (v : Main) : (s.setMain v).epoch = s.epoch := rfl
@[simp] theorem State.setMain_ret (s : State) (v : Main) : (s.setMain v).ret = s.ret := rfl

/-! ### setSie -/

@[simp] theorem State.setSie_dev (s : State) (v : Sie) : (s.setSie v).dev = s.dev := rfl
@[simp] theorem State.setSie_irq (s : State) (v : Sie) : (s.setSie v).irq = s.irq := rfl
@[simp] theorem State.setSie_bd (s : State) (v : Sie) : (s.setSie v).bd = s.bd := rfl
@[simp] theorem State.setSie_buf (s : State) (v : Sie) : (s.setSie v).buf = s.buf := rfl
@[simp] theorem State.setSie_ctl (s : State) (v : Sie) : (s.setSie v).ctl = s.ctl := rfl
@[simp] theorem State.setSie_pipeArmed (s : State) (v : Sie) : (s.setSie v).pipeArmed = s.pipeArmed := rfl
@[simp] theorem State.setSie_rx (s : State) (v : Sie) : (s.setSie v).rx = s.rx := rfl
@[simp] theorem State.setSie_tx (s : State) (v : Sie) : (s.setSie v).tx = s.tx := rfl
@[simp] theorem State.setSie_lc (s : State) (v : Sie) : (s.setSie v).lc = s.lc := rfl
@[simp] theorem State.setSie_resetReason (s : State) (v : Sie) : (s.setSie v).resetReason = s.resetReason := rfl
@[simp] theorem State.setSie_diag (s : State) (v : Sie) : (s.setSie v).diag = s.diag := rfl
@[simp] theorem State.setSie_main (s : State) (v : Sie) : (s.setSie v).main = s.main := rfl
@[simp] theorem State.setSie_sie (s : State) (v : Sie) : (s.setSie v).sie = v := rfl
@[simp] theorem State.setSie_wireIn (s : State) (v : Sie) : (s.setSie v).wireIn = s.wireIn := rfl
@[simp] theorem State.setSie_sess (s : State) (v : Sie) : (s.setSie v).sess = s.sess := rfl
@[simp] theorem State.setSie_flashseq (s : State) (v : Sie) : (s.setSie v).flashseq = s.flashseq := rfl
@[simp] theorem State.setSie_busTrace (s : State) (v : Sie) : (s.setSie v).busTrace = s.busTrace := rfl
@[simp] theorem State.setSie_cfg (s : State) (v : Sie) : (s.setSie v).cfg = s.cfg := rfl
@[simp] theorem State.setSie_port (s : State) (v : Sie) : (s.setSie v).port = s.port := rfl
@[simp] theorem State.setSie_cart (s : State) (v : Sie) : (s.setSie v).cart = s.cart := rfl
@[simp] theorem State.setSie_draws (s : State) (v : Sie) : (s.setSie v).draws = s.draws := rfl
@[simp] theorem State.setSie_epoch (s : State) (v : Sie) : (s.setSie v).epoch = s.epoch := rfl
@[simp] theorem State.setSie_ret (s : State) (v : Sie) : (s.setSie v).ret = s.ret := rfl

/-! ### setWireIn -/

@[simp] theorem State.setWireIn_dev (s : State) (v : List Packet) : (s.setWireIn v).dev = s.dev := rfl
@[simp] theorem State.setWireIn_irq (s : State) (v : List Packet) : (s.setWireIn v).irq = s.irq := rfl
@[simp] theorem State.setWireIn_bd (s : State) (v : List Packet) : (s.setWireIn v).bd = s.bd := rfl
@[simp] theorem State.setWireIn_buf (s : State) (v : List Packet) : (s.setWireIn v).buf = s.buf := rfl
@[simp] theorem State.setWireIn_ctl (s : State) (v : List Packet) : (s.setWireIn v).ctl = s.ctl := rfl
@[simp] theorem State.setWireIn_pipeArmed (s : State) (v : List Packet) : (s.setWireIn v).pipeArmed = s.pipeArmed := rfl
@[simp] theorem State.setWireIn_rx (s : State) (v : List Packet) : (s.setWireIn v).rx = s.rx := rfl
@[simp] theorem State.setWireIn_tx (s : State) (v : List Packet) : (s.setWireIn v).tx = s.tx := rfl
@[simp] theorem State.setWireIn_lc (s : State) (v : List Packet) : (s.setWireIn v).lc = s.lc := rfl
@[simp] theorem State.setWireIn_resetReason (s : State) (v : List Packet) : (s.setWireIn v).resetReason = s.resetReason := rfl
@[simp] theorem State.setWireIn_diag (s : State) (v : List Packet) : (s.setWireIn v).diag = s.diag := rfl
@[simp] theorem State.setWireIn_main (s : State) (v : List Packet) : (s.setWireIn v).main = s.main := rfl
@[simp] theorem State.setWireIn_sie (s : State) (v : List Packet) : (s.setWireIn v).sie = s.sie := rfl
@[simp] theorem State.setWireIn_wireIn (s : State) (v : List Packet) : (s.setWireIn v).wireIn = v := rfl
@[simp] theorem State.setWireIn_sess (s : State) (v : List Packet) : (s.setWireIn v).sess = s.sess := rfl
@[simp] theorem State.setWireIn_flashseq (s : State) (v : List Packet) : (s.setWireIn v).flashseq = s.flashseq := rfl
@[simp] theorem State.setWireIn_busTrace (s : State) (v : List Packet) : (s.setWireIn v).busTrace = s.busTrace := rfl
@[simp] theorem State.setWireIn_cfg (s : State) (v : List Packet) : (s.setWireIn v).cfg = s.cfg := rfl
@[simp] theorem State.setWireIn_port (s : State) (v : List Packet) : (s.setWireIn v).port = s.port := rfl
@[simp] theorem State.setWireIn_cart (s : State) (v : List Packet) : (s.setWireIn v).cart = s.cart := rfl
@[simp] theorem State.setWireIn_draws (s : State) (v : List Packet) : (s.setWireIn v).draws = s.draws := rfl
@[simp] theorem State.setWireIn_epoch (s : State) (v : List Packet) : (s.setWireIn v).epoch = s.epoch := rfl
@[simp] theorem State.setWireIn_ret (s : State) (v : List Packet) : (s.setWireIn v).ret = s.ret := rfl

/-! ### setSess -/

@[simp] theorem State.setSess_dev (s : State) (v : Sess) : (s.setSess v).dev = s.dev := rfl
@[simp] theorem State.setSess_irq (s : State) (v : Sess) : (s.setSess v).irq = s.irq := rfl
@[simp] theorem State.setSess_bd (s : State) (v : Sess) : (s.setSess v).bd = s.bd := rfl
@[simp] theorem State.setSess_buf (s : State) (v : Sess) : (s.setSess v).buf = s.buf := rfl
@[simp] theorem State.setSess_ctl (s : State) (v : Sess) : (s.setSess v).ctl = s.ctl := rfl
@[simp] theorem State.setSess_pipeArmed (s : State) (v : Sess) : (s.setSess v).pipeArmed = s.pipeArmed := rfl
@[simp] theorem State.setSess_rx (s : State) (v : Sess) : (s.setSess v).rx = s.rx := rfl
@[simp] theorem State.setSess_tx (s : State) (v : Sess) : (s.setSess v).tx = s.tx := rfl
@[simp] theorem State.setSess_lc (s : State) (v : Sess) : (s.setSess v).lc = s.lc := rfl
@[simp] theorem State.setSess_resetReason (s : State) (v : Sess) : (s.setSess v).resetReason = s.resetReason := rfl
@[simp] theorem State.setSess_diag (s : State) (v : Sess) : (s.setSess v).diag = s.diag := rfl
@[simp] theorem State.setSess_main (s : State) (v : Sess) : (s.setSess v).main = s.main := rfl
@[simp] theorem State.setSess_sie (s : State) (v : Sess) : (s.setSess v).sie = s.sie := rfl
@[simp] theorem State.setSess_wireIn (s : State) (v : Sess) : (s.setSess v).wireIn = s.wireIn := rfl
@[simp] theorem State.setSess_sess (s : State) (v : Sess) : (s.setSess v).sess = v := rfl
@[simp] theorem State.setSess_flashseq (s : State) (v : Sess) : (s.setSess v).flashseq = s.flashseq := rfl
@[simp] theorem State.setSess_busTrace (s : State) (v : Sess) : (s.setSess v).busTrace = s.busTrace := rfl
@[simp] theorem State.setSess_cfg (s : State) (v : Sess) : (s.setSess v).cfg = s.cfg := rfl
@[simp] theorem State.setSess_port (s : State) (v : Sess) : (s.setSess v).port = s.port := rfl
@[simp] theorem State.setSess_cart (s : State) (v : Sess) : (s.setSess v).cart = s.cart := rfl
@[simp] theorem State.setSess_draws (s : State) (v : Sess) : (s.setSess v).draws = s.draws := rfl
@[simp] theorem State.setSess_epoch (s : State) (v : Sess) : (s.setSess v).epoch = s.epoch := rfl
@[simp] theorem State.setSess_ret (s : State) (v : Sess) : (s.setSess v).ret = s.ret := rfl

/-! ### setFlashseq -/

@[simp] theorem State.setFlashseq_dev (s : State) (v : FlashSeq) : (s.setFlashseq v).dev = s.dev := rfl
@[simp] theorem State.setFlashseq_irq (s : State) (v : FlashSeq) : (s.setFlashseq v).irq = s.irq := rfl
@[simp] theorem State.setFlashseq_bd (s : State) (v : FlashSeq) : (s.setFlashseq v).bd = s.bd := rfl
@[simp] theorem State.setFlashseq_buf (s : State) (v : FlashSeq) : (s.setFlashseq v).buf = s.buf := rfl
@[simp] theorem State.setFlashseq_ctl (s : State) (v : FlashSeq) : (s.setFlashseq v).ctl = s.ctl := rfl
@[simp] theorem State.setFlashseq_pipeArmed (s : State) (v : FlashSeq) : (s.setFlashseq v).pipeArmed = s.pipeArmed := rfl
@[simp] theorem State.setFlashseq_rx (s : State) (v : FlashSeq) : (s.setFlashseq v).rx = s.rx := rfl
@[simp] theorem State.setFlashseq_tx (s : State) (v : FlashSeq) : (s.setFlashseq v).tx = s.tx := rfl
@[simp] theorem State.setFlashseq_lc (s : State) (v : FlashSeq) : (s.setFlashseq v).lc = s.lc := rfl
@[simp] theorem State.setFlashseq_resetReason (s : State) (v : FlashSeq) : (s.setFlashseq v).resetReason = s.resetReason := rfl
@[simp] theorem State.setFlashseq_diag (s : State) (v : FlashSeq) : (s.setFlashseq v).diag = s.diag := rfl
@[simp] theorem State.setFlashseq_main (s : State) (v : FlashSeq) : (s.setFlashseq v).main = s.main := rfl
@[simp] theorem State.setFlashseq_sie (s : State) (v : FlashSeq) : (s.setFlashseq v).sie = s.sie := rfl
@[simp] theorem State.setFlashseq_wireIn (s : State) (v : FlashSeq) : (s.setFlashseq v).wireIn = s.wireIn := rfl
@[simp] theorem State.setFlashseq_sess (s : State) (v : FlashSeq) : (s.setFlashseq v).sess = s.sess := rfl
@[simp] theorem State.setFlashseq_flashseq (s : State) (v : FlashSeq) : (s.setFlashseq v).flashseq = v := rfl
@[simp] theorem State.setFlashseq_busTrace (s : State) (v : FlashSeq) : (s.setFlashseq v).busTrace = s.busTrace := rfl
@[simp] theorem State.setFlashseq_cfg (s : State) (v : FlashSeq) : (s.setFlashseq v).cfg = s.cfg := rfl
@[simp] theorem State.setFlashseq_port (s : State) (v : FlashSeq) : (s.setFlashseq v).port = s.port := rfl
@[simp] theorem State.setFlashseq_cart (s : State) (v : FlashSeq) : (s.setFlashseq v).cart = s.cart := rfl
@[simp] theorem State.setFlashseq_draws (s : State) (v : FlashSeq) : (s.setFlashseq v).draws = s.draws := rfl
@[simp] theorem State.setFlashseq_epoch (s : State) (v : FlashSeq) : (s.setFlashseq v).epoch = s.epoch := rfl
@[simp] theorem State.setFlashseq_ret (s : State) (v : FlashSeq) : (s.setFlashseq v).ret = s.ret := rfl

/-! ### setBusTrace -/

@[simp] theorem State.setBusTrace_dev (s : State) (v : List BusOp) : (s.setBusTrace v).dev = s.dev := rfl
@[simp] theorem State.setBusTrace_irq (s : State) (v : List BusOp) : (s.setBusTrace v).irq = s.irq := rfl
@[simp] theorem State.setBusTrace_bd (s : State) (v : List BusOp) : (s.setBusTrace v).bd = s.bd := rfl
@[simp] theorem State.setBusTrace_buf (s : State) (v : List BusOp) : (s.setBusTrace v).buf = s.buf := rfl
@[simp] theorem State.setBusTrace_ctl (s : State) (v : List BusOp) : (s.setBusTrace v).ctl = s.ctl := rfl
@[simp] theorem State.setBusTrace_pipeArmed (s : State) (v : List BusOp) : (s.setBusTrace v).pipeArmed = s.pipeArmed := rfl
@[simp] theorem State.setBusTrace_rx (s : State) (v : List BusOp) : (s.setBusTrace v).rx = s.rx := rfl
@[simp] theorem State.setBusTrace_tx (s : State) (v : List BusOp) : (s.setBusTrace v).tx = s.tx := rfl
@[simp] theorem State.setBusTrace_lc (s : State) (v : List BusOp) : (s.setBusTrace v).lc = s.lc := rfl
@[simp] theorem State.setBusTrace_resetReason (s : State) (v : List BusOp) : (s.setBusTrace v).resetReason = s.resetReason := rfl
@[simp] theorem State.setBusTrace_diag (s : State) (v : List BusOp) : (s.setBusTrace v).diag = s.diag := rfl
@[simp] theorem State.setBusTrace_main (s : State) (v : List BusOp) : (s.setBusTrace v).main = s.main := rfl
@[simp] theorem State.setBusTrace_sie (s : State) (v : List BusOp) : (s.setBusTrace v).sie = s.sie := rfl
@[simp] theorem State.setBusTrace_wireIn (s : State) (v : List BusOp) : (s.setBusTrace v).wireIn = s.wireIn := rfl
@[simp] theorem State.setBusTrace_sess (s : State) (v : List BusOp) : (s.setBusTrace v).sess = s.sess := rfl
@[simp] theorem State.setBusTrace_flashseq (s : State) (v : List BusOp) : (s.setBusTrace v).flashseq = s.flashseq := rfl
@[simp] theorem State.setBusTrace_busTrace (s : State) (v : List BusOp) : (s.setBusTrace v).busTrace = v := rfl
@[simp] theorem State.setBusTrace_cfg (s : State) (v : List BusOp) : (s.setBusTrace v).cfg = s.cfg := rfl
@[simp] theorem State.setBusTrace_port (s : State) (v : List BusOp) : (s.setBusTrace v).port = s.port := rfl
@[simp] theorem State.setBusTrace_cart (s : State) (v : List BusOp) : (s.setBusTrace v).cart = s.cart := rfl
@[simp] theorem State.setBusTrace_draws (s : State) (v : List BusOp) : (s.setBusTrace v).draws = s.draws := rfl
@[simp] theorem State.setBusTrace_epoch (s : State) (v : List BusOp) : (s.setBusTrace v).epoch = s.epoch := rfl
@[simp] theorem State.setBusTrace_ret (s : State) (v : List BusOp) : (s.setBusTrace v).ret = s.ret := rfl

/-! ### setPort -/

@[simp] theorem State.setPort_dev (s : State) (v : List Turn) : (s.setPort v).dev = s.dev := rfl
@[simp] theorem State.setPort_irq (s : State) (v : List Turn) : (s.setPort v).irq = s.irq := rfl
@[simp] theorem State.setPort_bd (s : State) (v : List Turn) : (s.setPort v).bd = s.bd := rfl
@[simp] theorem State.setPort_buf (s : State) (v : List Turn) : (s.setPort v).buf = s.buf := rfl
@[simp] theorem State.setPort_ctl (s : State) (v : List Turn) : (s.setPort v).ctl = s.ctl := rfl
@[simp] theorem State.setPort_pipeArmed (s : State) (v : List Turn) : (s.setPort v).pipeArmed = s.pipeArmed := rfl
@[simp] theorem State.setPort_rx (s : State) (v : List Turn) : (s.setPort v).rx = s.rx := rfl
@[simp] theorem State.setPort_tx (s : State) (v : List Turn) : (s.setPort v).tx = s.tx := rfl
@[simp] theorem State.setPort_lc (s : State) (v : List Turn) : (s.setPort v).lc = s.lc := rfl
@[simp] theorem State.setPort_resetReason (s : State) (v : List Turn) : (s.setPort v).resetReason = s.resetReason := rfl
@[simp] theorem State.setPort_diag (s : State) (v : List Turn) : (s.setPort v).diag = s.diag := rfl
@[simp] theorem State.setPort_main (s : State) (v : List Turn) : (s.setPort v).main = s.main := rfl
@[simp] theorem State.setPort_sie (s : State) (v : List Turn) : (s.setPort v).sie = s.sie := rfl
@[simp] theorem State.setPort_wireIn (s : State) (v : List Turn) : (s.setPort v).wireIn = s.wireIn := rfl
@[simp] theorem State.setPort_sess (s : State) (v : List Turn) : (s.setPort v).sess = s.sess := rfl
@[simp] theorem State.setPort_flashseq (s : State) (v : List Turn) : (s.setPort v).flashseq = s.flashseq := rfl
@[simp] theorem State.setPort_busTrace (s : State) (v : List Turn) : (s.setPort v).busTrace = s.busTrace := rfl
@[simp] theorem State.setPort_cfg (s : State) (v : List Turn) : (s.setPort v).cfg = s.cfg := rfl
@[simp] theorem State.setPort_port (s : State) (v : List Turn) : (s.setPort v).port = v := rfl
@[simp] theorem State.setPort_cart (s : State) (v : List Turn) : (s.setPort v).cart = s.cart := rfl
@[simp] theorem State.setPort_draws (s : State) (v : List Turn) : (s.setPort v).draws = s.draws := rfl
@[simp] theorem State.setPort_epoch (s : State) (v : List Turn) : (s.setPort v).epoch = s.epoch := rfl
@[simp] theorem State.setPort_ret (s : State) (v : List Turn) : (s.setPort v).ret = s.ret := rfl

/-! ### setCart -/

@[simp] theorem State.setCart_dev (s : State) (v : List Byte) : (s.setCart v).dev = s.dev := rfl
@[simp] theorem State.setCart_irq (s : State) (v : List Byte) : (s.setCart v).irq = s.irq := rfl
@[simp] theorem State.setCart_bd (s : State) (v : List Byte) : (s.setCart v).bd = s.bd := rfl
@[simp] theorem State.setCart_buf (s : State) (v : List Byte) : (s.setCart v).buf = s.buf := rfl
@[simp] theorem State.setCart_ctl (s : State) (v : List Byte) : (s.setCart v).ctl = s.ctl := rfl
@[simp] theorem State.setCart_pipeArmed (s : State) (v : List Byte) : (s.setCart v).pipeArmed = s.pipeArmed := rfl
@[simp] theorem State.setCart_rx (s : State) (v : List Byte) : (s.setCart v).rx = s.rx := rfl
@[simp] theorem State.setCart_tx (s : State) (v : List Byte) : (s.setCart v).tx = s.tx := rfl
@[simp] theorem State.setCart_lc (s : State) (v : List Byte) : (s.setCart v).lc = s.lc := rfl
@[simp] theorem State.setCart_resetReason (s : State) (v : List Byte) : (s.setCart v).resetReason = s.resetReason := rfl
@[simp] theorem State.setCart_diag (s : State) (v : List Byte) : (s.setCart v).diag = s.diag := rfl
@[simp] theorem State.setCart_main (s : State) (v : List Byte) : (s.setCart v).main = s.main := rfl
@[simp] theorem State.setCart_sie (s : State) (v : List Byte) : (s.setCart v).sie = s.sie := rfl
@[simp] theorem State.setCart_wireIn (s : State) (v : List Byte) : (s.setCart v).wireIn = s.wireIn := rfl
@[simp] theorem State.setCart_sess (s : State) (v : List Byte) : (s.setCart v).sess = s.sess := rfl
@[simp] theorem State.setCart_flashseq (s : State) (v : List Byte) : (s.setCart v).flashseq = s.flashseq := rfl
@[simp] theorem State.setCart_busTrace (s : State) (v : List Byte) : (s.setCart v).busTrace = s.busTrace := rfl
@[simp] theorem State.setCart_cfg (s : State) (v : List Byte) : (s.setCart v).cfg = s.cfg := rfl
@[simp] theorem State.setCart_port (s : State) (v : List Byte) : (s.setCart v).port = s.port := rfl
@[simp] theorem State.setCart_cart (s : State) (v : List Byte) : (s.setCart v).cart = v := rfl
@[simp] theorem State.setCart_draws (s : State) (v : List Byte) : (s.setCart v).draws = s.draws := rfl
@[simp] theorem State.setCart_epoch (s : State) (v : List Byte) : (s.setCart v).epoch = s.epoch := rfl
@[simp] theorem State.setCart_ret (s : State) (v : List Byte) : (s.setCart v).ret = s.ret := rfl

/-! ### setDraws -/

@[simp] theorem State.setDraws_dev (s : State) (v : Nat) : (s.setDraws v).dev = s.dev := rfl
@[simp] theorem State.setDraws_irq (s : State) (v : Nat) : (s.setDraws v).irq = s.irq := rfl
@[simp] theorem State.setDraws_bd (s : State) (v : Nat) : (s.setDraws v).bd = s.bd := rfl
@[simp] theorem State.setDraws_buf (s : State) (v : Nat) : (s.setDraws v).buf = s.buf := rfl
@[simp] theorem State.setDraws_ctl (s : State) (v : Nat) : (s.setDraws v).ctl = s.ctl := rfl
@[simp] theorem State.setDraws_pipeArmed (s : State) (v : Nat) : (s.setDraws v).pipeArmed = s.pipeArmed := rfl
@[simp] theorem State.setDraws_rx (s : State) (v : Nat) : (s.setDraws v).rx = s.rx := rfl
@[simp] theorem State.setDraws_tx (s : State) (v : Nat) : (s.setDraws v).tx = s.tx := rfl
@[simp] theorem State.setDraws_lc (s : State) (v : Nat) : (s.setDraws v).lc = s.lc := rfl
@[simp] theorem State.setDraws_resetReason (s : State) (v : Nat) : (s.setDraws v).resetReason = s.resetReason := rfl
@[simp] theorem State.setDraws_diag (s : State) (v : Nat) : (s.setDraws v).diag = s.diag := rfl
@[simp] theorem State.setDraws_main (s : State) (v : Nat) : (s.setDraws v).main = s.main := rfl
@[simp] theorem State.setDraws_sie (s : State) (v : Nat) : (s.setDraws v).sie = s.sie := rfl
@[simp] theorem State.setDraws_wireIn (s : State) (v : Nat) : (s.setDraws v).wireIn = s.wireIn := rfl
@[simp] theorem State.setDraws_sess (s : State) (v : Nat) : (s.setDraws v).sess = s.sess := rfl
@[simp] theorem State.setDraws_flashseq (s : State) (v : Nat) : (s.setDraws v).flashseq = s.flashseq := rfl
@[simp] theorem State.setDraws_busTrace (s : State) (v : Nat) : (s.setDraws v).busTrace = s.busTrace := rfl
@[simp] theorem State.setDraws_cfg (s : State) (v : Nat) : (s.setDraws v).cfg = s.cfg := rfl
@[simp] theorem State.setDraws_port (s : State) (v : Nat) : (s.setDraws v).port = s.port := rfl
@[simp] theorem State.setDraws_cart (s : State) (v : Nat) : (s.setDraws v).cart = s.cart := rfl
@[simp] theorem State.setDraws_draws (s : State) (v : Nat) : (s.setDraws v).draws = v := rfl
@[simp] theorem State.setDraws_epoch (s : State) (v : Nat) : (s.setDraws v).epoch = s.epoch := rfl
@[simp] theorem State.setDraws_ret (s : State) (v : Nat) : (s.setDraws v).ret = s.ret := rfl

/-! ### setRet -/

@[simp] theorem State.setRet_dev (s : State) (v : Ret) : (s.setRet v).dev = s.dev := rfl
@[simp] theorem State.setRet_irq (s : State) (v : Ret) : (s.setRet v).irq = s.irq := rfl
@[simp] theorem State.setRet_bd (s : State) (v : Ret) : (s.setRet v).bd = s.bd := rfl
@[simp] theorem State.setRet_buf (s : State) (v : Ret) : (s.setRet v).buf = s.buf := rfl
@[simp] theorem State.setRet_ctl (s : State) (v : Ret) : (s.setRet v).ctl = s.ctl := rfl
@[simp] theorem State.setRet_pipeArmed (s : State) (v : Ret) : (s.setRet v).pipeArmed = s.pipeArmed := rfl
@[simp] theorem State.setRet_rx (s : State) (v : Ret) : (s.setRet v).rx = s.rx := rfl
@[simp] theorem State.setRet_tx (s : State) (v : Ret) : (s.setRet v).tx = s.tx := rfl
@[simp] theorem State.setRet_lc (s : State) (v : Ret) : (s.setRet v).lc = s.lc := rfl
@[simp] theorem State.setRet_resetReason (s : State) (v : Ret) : (s.setRet v).resetReason = s.resetReason := rfl
@[simp] theorem State.setRet_diag (s : State) (v : Ret) : (s.setRet v).diag = s.diag := rfl
@[simp] theorem State.setRet_main (s : State) (v : Ret) : (s.setRet v).main = s.main := rfl
@[simp] theorem State.setRet_sie (s : State) (v : Ret) : (s.setRet v).sie = s.sie := rfl
@[simp] theorem State.setRet_wireIn (s : State) (v : Ret) : (s.setRet v).wireIn = s.wireIn := rfl
@[simp] theorem State.setRet_sess (s : State) (v : Ret) : (s.setRet v).sess = s.sess := rfl
@[simp] theorem State.setRet_flashseq (s : State) (v : Ret) : (s.setRet v).flashseq = s.flashseq := rfl
@[simp] theorem State.setRet_busTrace (s : State) (v : Ret) : (s.setRet v).busTrace = s.busTrace := rfl
@[simp] theorem State.setRet_cfg (s : State) (v : Ret) : (s.setRet v).cfg = s.cfg := rfl
@[simp] theorem State.setRet_port (s : State) (v : Ret) : (s.setRet v).port = s.port := rfl
@[simp] theorem State.setRet_cart (s : State) (v : Ret) : (s.setRet v).cart = s.cart := rfl
@[simp] theorem State.setRet_draws (s : State) (v : Ret) : (s.setRet v).draws = s.draws := rfl
@[simp] theorem State.setRet_epoch (s : State) (v : Ret) : (s.setRet v).epoch = s.epoch := rfl
@[simp] theorem State.setRet_ret (s : State) (v : Ret) : (s.setRet v).ret = v := rfl

end Sys2Proof.Machine
end

