-- ==== Sys2Proof/Laws/Frame.lean ====
section
/-! SUPPORT. What each shared operation leaves alone: one lemma per field. -/

set_option Elab.async false

namespace Sys2Proof.Machine

/-! ### Descriptors and bytes through the plain updates -/

@[simp] theorem State.setDev_desc (s : State) (v : Dev) (d : DescId) : (s.setDev v).desc d = s.desc d := rfl
@[simp] theorem State.setIrq_desc (s : State) (v : Irq) (d : DescId) : (s.setIrq v).desc d = s.desc d := rfl
@[simp] theorem State.setBuf_desc (s : State) (v : Memory) (d : DescId) : (s.setBuf v).desc d = s.desc d := rfl
@[simp] theorem State.setCtl_desc (s : State) (v : Ctl) (d : DescId) : (s.setCtl v).desc d = s.desc d := rfl
@[simp] theorem State.setPipeArmed_desc (s : State) (v : Bool) (d : DescId) : (s.setPipeArmed v).desc d = s.desc d := rfl
@[simp] theorem State.setRx_desc (s : State) (v : Rx) (d : DescId) : (s.setRx v).desc d = s.desc d := rfl
@[simp] theorem State.setTx_desc (s : State) (v : Tx) (d : DescId) : (s.setTx v).desc d = s.desc d := rfl
@[simp] theorem State.setLc_desc (s : State) (v : List Byte) (d : DescId) : (s.setLc v).desc d = s.desc d := rfl
@[simp] theorem State.setResetReason_desc (s : State) (v : Byte) (d : DescId) : (s.setResetReason v).desc d = s.desc d := rfl
@[simp] theorem State.setDiag_desc (s : State) (v : Diag) (d : DescId) : (s.setDiag v).desc d = s.desc d := rfl
@[simp] theorem State.setMain_desc (s : State) (v : Main) (d : DescId) : (s.setMain v).desc d = s.desc d := rfl
@[simp] theorem State.setSie_desc (s : State) (v : Sie) (d : DescId) : (s.setSie v).desc d = s.desc d := rfl
@[simp] theorem State.setWireIn_desc (s : State) (v : List Packet) (d : DescId) : (s.setWireIn v).desc d = s.desc d := rfl
@[simp] theorem State.setSess_desc (s : State) (v : Sess) (d : DescId) : (s.setSess v).desc d = s.desc d := rfl
@[simp] theorem State.setFlashseq_desc (s : State) (v : FlashSeq) (d : DescId) : (s.setFlashseq v).desc d = s.desc d := rfl
@[simp] theorem State.setBusTrace_desc (s : State) (v : List BusOp) (d : DescId) : (s.setBusTrace v).desc d = s.desc d := rfl
@[simp] theorem State.setPort_desc (s : State) (v : List Turn) (d : DescId) : (s.setPort v).desc d = s.desc d := rfl
@[simp] theorem State.setCart_desc (s : State) (v : List Byte) (d : DescId) : (s.setCart v).desc d = s.desc d := rfl
@[simp] theorem State.setDraws_desc (s : State) (v : Nat) (d : DescId) : (s.setDraws v).desc d = s.desc d := rfl
@[simp] theorem State.setRet_desc (s : State) (v : Ret) (d : DescId) : (s.setRet v).desc d = s.desc d := rfl

@[simp] theorem State.setDev_readBuf (s : State) (v : Dev) (d : DescId) (i : Nat) :
    (s.setDev v).readBuf d i = s.readBuf d i := rfl
@[simp] theorem State.setIrq_readBuf (s : State) (v : Irq) (d : DescId) (i : Nat) :
    (s.setIrq v).readBuf d i = s.readBuf d i := rfl
@[simp] theorem State.setBd_readBuf (s : State) (v : BdTable) (d : DescId) (i : Nat) :
    (s.setBd v).readBuf d i = s.readBuf d i := rfl
@[simp] theorem State.setCtl_readBuf (s : State) (v : Ctl) (d : DescId) (i : Nat) :
    (s.setCtl v).readBuf d i = s.readBuf d i := rfl
@[simp] theorem State.setPipeArmed_readBuf (s : State) (v : Bool) (d : DescId) (i : Nat) :
    (s.setPipeArmed v).readBuf d i = s.readBuf d i := rfl
@[simp] theorem State.setRx_readBuf (s : State) (v : Rx) (d : DescId) (i : Nat) :
    (s.setRx v).readBuf d i = s.readBuf d i := rfl
@[simp] theorem State.setTx_readBuf (s : State) (v : Tx) (d : DescId) (i : Nat) :
    (s.setTx v).readBuf d i = s.readBuf d i := rfl
@[simp] theorem State.setLc_readBuf (s : State) (v : List Byte) (d : DescId) (i : Nat) :
    (s.setLc v).readBuf d i = s.readBuf d i := rfl
@[simp] theorem State.setResetReason_readBuf (s : State) (v : Byte) (d : DescId) (i : Nat) :
    (s.setResetReason v).readBuf d i = s.readBuf d i := rfl
@[simp] theorem State.setDiag_readBuf (s : State) (v : Diag) (d : DescId) (i : Nat) :
    (s.setDiag v).readBuf d i = s.readBuf d i := rfl
@[simp] theorem State.setMain_readBuf (s : State) (v : Main) (d : DescId) (i : Nat) :
    (s.setMain v).readBuf d i = s.readBuf d i := rfl
@[simp] theorem State.setSie_readBuf (s : State) (v : Sie) (d : DescId) (i : Nat) :
    (s.setSie v).readBuf d i = s.readBuf d i := rfl
@[simp] theorem State.setWireIn_readBuf (s : State) (v : List Packet) (d : DescId) (i : Nat) :
    (s.setWireIn v).readBuf d i = s.readBuf d i := rfl
@[simp] theorem State.setSess_readBuf (s : State) (v : Sess) (d : DescId) (i : Nat) :
    (s.setSess v).readBuf d i = s.readBuf d i := rfl
@[simp] theorem State.setFlashseq_readBuf (s : State) (v : FlashSeq) (d : DescId) (i : Nat) :
    (s.setFlashseq v).readBuf d i = s.readBuf d i := rfl
@[simp] theorem State.setBusTrace_readBuf (s : State) (v : List BusOp) (d : DescId) (i : Nat) :
    (s.setBusTrace v).readBuf d i = s.readBuf d i := rfl
@[simp] theorem State.setPort_readBuf (s : State) (v : List Turn) (d : DescId) (i : Nat) :
    (s.setPort v).readBuf d i = s.readBuf d i := rfl
@[simp] theorem State.setCart_readBuf (s : State) (v : List Byte) (d : DescId) (i : Nat) :
    (s.setCart v).readBuf d i = s.readBuf d i := rfl
@[simp] theorem State.setDraws_readBuf (s : State) (v : Nat) (d : DescId) (i : Nat) :
    (s.setDraws v).readBuf d i = s.readBuf d i := rfl
@[simp] theorem State.setRet_readBuf (s : State) (v : Ret) (d : DescId) (i : Nat) :
    (s.setRet v).readBuf d i = s.readBuf d i := rfl

/-! ### writeBuf -/

@[simp] theorem State.writeBuf_dev (s : State) (d : DescId) (i : Nat) (b : Byte) :
    (s.writeBuf d i b).dev = s.dev := rfl
@[simp] theorem State.writeBuf_irq (s : State) (d : DescId) (i : Nat) (b : Byte) :
    (s.writeBuf d i b).irq = s.irq := rfl
@[simp] theorem State.writeBuf_bd (s : State) (d : DescId) (i : Nat) (b : Byte) :
    (s.writeBuf d i b).bd = s.bd := rfl
@[simp] theorem State.writeBuf_ctl (s : State) (d : DescId) (i : Nat) (b : Byte) :
    (s.writeBuf d i b).ctl = s.ctl := rfl
@[simp] theorem State.writeBuf_pipeArmed (s : State) (d : DescId) (i : Nat) (b : Byte) :
    (s.writeBuf d i b).pipeArmed = s.pipeArmed := rfl
@[simp] theorem State.writeBuf_rx (s : State) (d : DescId) (i : Nat) (b : Byte) :
    (s.writeBuf d i b).rx = s.rx := rfl
@[simp] theorem State.writeBuf_tx (s : State) (d : DescId) (i : Nat) (b : Byte) :
    (s.writeBuf d i b).tx = s.tx := rfl
@[simp] theorem State.writeBuf_lc (s : State) (d : DescId) (i : Nat) (b : Byte) :
    (s.writeBuf d i b).lc = s.lc := rfl
@[simp] theorem State.writeBuf_resetReason (s : State) (d : DescId) (i : Nat) (b : Byte) :
    (s.writeBuf d i b).resetReason = s.resetReason := rfl
@[simp] theorem State.writeBuf_diag (s : State) (d : DescId) (i : Nat) (b : Byte) :
    (s.writeBuf d i b).diag = s.diag := rfl
@[simp] theorem State.writeBuf_main (s : State) (d : DescId) (i : Nat) (b : Byte) :
    (s.writeBuf d i b).main = s.main := rfl
@[simp] theorem State.writeBuf_sie (s : State) (d : DescId) (i : Nat) (b : Byte) :
    (s.writeBuf d i b).sie = s.sie := rfl
@[simp] theorem State.writeBuf_wireIn (s : State) (d : DescId) (i : Nat) (b : Byte) :
    (s.writeBuf d i b).wireIn = s.wireIn := rfl
@[simp] theorem State.writeBuf_sess (s : State) (d : DescId) (i : Nat) (b : Byte) :
    (s.writeBuf d i b).sess = s.sess := rfl
@[simp] theorem State.writeBuf_flashseq (s : State) (d : DescId) (i : Nat) (b : Byte) :
    (s.writeBuf d i b).flashseq = s.flashseq := rfl
@[simp] theorem State.writeBuf_busTrace (s : State) (d : DescId) (i : Nat) (b : Byte) :
    (s.writeBuf d i b).busTrace = s.busTrace := rfl
@[simp] theorem State.writeBuf_cfg (s : State) (d : DescId) (i : Nat) (b : Byte) :
    (s.writeBuf d i b).cfg = s.cfg := rfl
@[simp] theorem State.writeBuf_port (s : State) (d : DescId) (i : Nat) (b : Byte) :
    (s.writeBuf d i b).port = s.port := rfl
@[simp] theorem State.writeBuf_cart (s : State) (d : DescId) (i : Nat) (b : Byte) :
    (s.writeBuf d i b).cart = s.cart := rfl
@[simp] theorem State.writeBuf_draws (s : State) (d : DescId) (i : Nat) (b : Byte) :
    (s.writeBuf d i b).draws = s.draws := rfl
@[simp] theorem State.writeBuf_epoch (s : State) (d : DescId) (i : Nat) (b : Byte) :
    (s.writeBuf d i b).epoch = s.epoch := rfl
@[simp] theorem State.writeBuf_ret (s : State) (d : DescId) (i : Nat) (b : Byte) :
    (s.writeBuf d i b).ret = s.ret := rfl

/-! ### writeBufs -/

@[simp] theorem State.writeBufs_dev (s : State) (d : DescId) (i : Nat) (bs : List Byte) :
    (s.writeBufs d i bs).dev = s.dev := by
  induction bs generalizing s i with
  | nil => rfl
  | cons b bs ih => exact ih _ _
@[simp] theorem State.writeBufs_irq (s : State) (d : DescId) (i : Nat) (bs : List Byte) :
    (s.writeBufs d i bs).irq = s.irq := by
  induction bs generalizing s i with
  | nil => rfl
  | cons b bs ih => exact ih _ _
@[simp] theorem State.writeBufs_bd (s : State) (d : DescId) (i : Nat) (bs : List Byte) :
    (s.writeBufs d i bs).bd = s.bd := by
  induction bs generalizing s i with
  | nil => rfl
  | cons b bs ih => exact ih _ _
@[simp] theorem State.writeBufs_ctl (s : State) (d : DescId) (i : Nat) (bs : List Byte) :
    (s.writeBufs d i bs).ctl = s.ctl := by
  induction bs generalizing s i with
  | nil => rfl
  | cons b bs ih => exact ih _ _
@[simp] theorem State.writeBufs_pipeArmed (s : State) (d : DescId) (i : Nat) (bs : List Byte) :
    (s.writeBufs d i bs).pipeArmed = s.pipeArmed := by
  induction bs generalizing s i with
  | nil => rfl
  | cons b bs ih => exact ih _ _
@[simp] theorem State.writeBufs_rx (s : State) (d : DescId) (i : Nat) (bs : List Byte) :
    (s.writeBufs d i bs).rx = s.rx := by
  induction bs generalizing s i with
  | nil => rfl
  | cons b bs ih => exact ih _ _
@[simp] theorem State.writeBufs_tx (s : State) (d : DescId) (i : Nat) (bs : List Byte) :
    (s.writeBufs d i bs).tx = s.tx := by
  induction bs generalizing s i with
  | nil => rfl
  | cons b bs ih => exact ih _ _
@[simp] theorem State.writeBufs_lc (s : State) (d : DescId) (i : Nat) (bs : List Byte) :
    (s.writeBufs d i bs).lc = s.lc := by
  induction bs generalizing s i with
  | nil => rfl
  | cons b bs ih => exact ih _ _
@[simp] theorem State.writeBufs_resetReason (s : State) (d : DescId) (i : Nat) (bs : List Byte) :
    (s.writeBufs d i bs).resetReason = s.resetReason := by
  induction bs generalizing s i with
  | nil => rfl
  | cons b bs ih => exact ih _ _
@[simp] theorem State.writeBufs_diag (s : State) (d : DescId) (i : Nat) (bs : List Byte) :
    (s.writeBufs d i bs).diag = s.diag := by
  induction bs generalizing s i with
  | nil => rfl
  | cons b bs ih => exact ih _ _
@[simp] theorem State.writeBufs_main (s : State) (d : DescId) (i : Nat) (bs : List Byte) :
    (s.writeBufs d i bs).main = s.main := by
  induction bs generalizing s i with
  | nil => rfl
  | cons b bs ih => exact ih _ _
@[simp] theorem State.writeBufs_sie (s : State) (d : DescId) (i : Nat) (bs : List Byte) :
    (s.writeBufs d i bs).sie = s.sie := by
  induction bs generalizing s i with
  | nil => rfl
  | cons b bs ih => exact ih _ _
@[simp] theorem State.writeBufs_wireIn (s : State) (d : DescId) (i : Nat) (bs : List Byte) :
    (s.writeBufs d i bs).wireIn = s.wireIn := by
  induction bs generalizing s i with
  | nil => rfl
  | cons b bs ih => exact ih _ _
@[simp] theorem State.writeBufs_sess (s : State) (d : DescId) (i : Nat) (bs : List Byte) :
    (s.writeBufs d i bs).sess = s.sess := by
  induction bs generalizing s i with
  | nil => rfl
  | cons b bs ih => exact ih _ _
@[simp] theorem State.writeBufs_flashseq (s : State) (d : DescId) (i : Nat) (bs : List Byte) :
    (s.writeBufs d i bs).flashseq = s.flashseq := by
  induction bs generalizing s i with
  | nil => rfl
  | cons b bs ih => exact ih _ _
@[simp] theorem State.writeBufs_busTrace (s : State) (d : DescId) (i : Nat) (bs : List Byte) :
    (s.writeBufs d i bs).busTrace = s.busTrace := by
  induction bs generalizing s i with
  | nil => rfl
  | cons b bs ih => exact ih _ _
@[simp] theorem State.writeBufs_cfg (s : State) (d : DescId) (i : Nat) (bs : List Byte) :
    (s.writeBufs d i bs).cfg = s.cfg := by
  induction bs generalizing s i with
  | nil => rfl
  | cons b bs ih => exact ih _ _
@[simp] theorem State.writeBufs_port (s : State) (d : DescId) (i : Nat) (bs : List Byte) :
    (s.writeBufs d i bs).port = s.port := by
  induction bs generalizing s i with
  | nil => rfl
  | cons b bs ih => exact ih _ _
@[simp] theorem State.writeBufs_cart (s : State) (d : DescId) (i : Nat) (bs : List Byte) :
    (s.writeBufs d i bs).cart = s.cart := by
  induction bs generalizing s i with
  | nil => rfl
  | cons b bs ih => exact ih _ _
@[simp] theorem State.writeBufs_draws (s : State) (d : DescId) (i : Nat) (bs : List Byte) :
    (s.writeBufs d i bs).draws = s.draws := by
  induction bs generalizing s i with
  | nil => rfl
  | cons b bs ih => exact ih _ _
@[simp] theorem State.writeBufs_epoch (s : State) (d : DescId) (i : Nat) (bs : List Byte) :
    (s.writeBufs d i bs).epoch = s.epoch := by
  induction bs generalizing s i with
  | nil => rfl
  | cons b bs ih => exact ih _ _
@[simp] theorem State.writeBufs_ret (s : State) (d : DescId) (i : Nat) (bs : List Byte) :
    (s.writeBufs d i bs).ret = s.ret := by
  induction bs generalizing s i with
  | nil => rfl
  | cons b bs ih => exact ih _ _

/-! ### setDesc -/

@[simp] theorem State.setDesc_dev (s : State) (d : DescId) (v : Bd) : (s.setDesc d v).dev = s.dev := rfl
@[simp] theorem State.setDesc_irq (s : State) (d : DescId) (v : Bd) : (s.setDesc d v).irq = s.irq := rfl
@[simp] theorem State.setDesc_buf (s : State) (d : DescId) (v : Bd) : (s.setDesc d v).buf = s.buf := rfl
@[simp] theorem State.setDesc_ctl (s : State) (d : DescId) (v : Bd) : (s.setDesc d v).ctl = s.ctl := rfl
@[simp] theorem State.setDesc_pipeArmed (s : State) (d : DescId) (v : Bd) :
    (s.setDesc d v).pipeArmed = s.pipeArmed := rfl
@[simp] theorem State.setDesc_rx (s : State) (d : DescId) (v : Bd) : (s.setDesc d v).rx = s.rx := rfl
@[simp] theorem State.setDesc_tx (s : State) (d : DescId) (v : Bd) : (s.setDesc d v).tx = s.tx := rfl
@[simp] theorem State.setDesc_lc (s : State) (d : DescId) (v : Bd) : (s.setDesc d v).lc = s.lc := rfl
@[simp] theorem State.setDesc_resetReason (s : State) (d : DescId) (v : Bd) :
    (s.setDesc d v).resetReason = s.resetReason := rfl
@[simp] theorem State.setDesc_diag (s : State) (d : DescId) (v : Bd) : (s.setDesc d v).diag = s.diag := rfl
@[simp] theorem State.setDesc_main (s : State) (d : DescId) (v : Bd) : (s.setDesc d v).main = s.main := rfl
@[simp] theorem State.setDesc_sie (s : State) (d : DescId) (v : Bd) : (s.setDesc d v).sie = s.sie := rfl
@[simp] theorem State.setDesc_wireIn (s : State) (d : DescId) (v : Bd) : (s.setDesc d v).wireIn = s.wireIn := rfl
@[simp] theorem State.setDesc_sess (s : State) (d : DescId) (v : Bd) : (s.setDesc d v).sess = s.sess := rfl
@[simp] theorem State.setDesc_flashseq (s : State) (d : DescId) (v : Bd) :
    (s.setDesc d v).flashseq = s.flashseq := rfl
@[simp] theorem State.setDesc_busTrace (s : State) (d : DescId) (v : Bd) :
    (s.setDesc d v).busTrace = s.busTrace := rfl
@[simp] theorem State.setDesc_cfg (s : State) (d : DescId) (v : Bd) : (s.setDesc d v).cfg = s.cfg := rfl
@[simp] theorem State.setDesc_port (s : State) (d : DescId) (v : Bd) : (s.setDesc d v).port = s.port := rfl
@[simp] theorem State.setDesc_cart (s : State) (d : DescId) (v : Bd) : (s.setDesc d v).cart = s.cart := rfl
@[simp] theorem State.setDesc_draws (s : State) (d : DescId) (v : Bd) : (s.setDesc d v).draws = s.draws := rfl
@[simp] theorem State.setDesc_epoch (s : State) (d : DescId) (v : Bd) : (s.setDesc d v).epoch = s.epoch := rfl
@[simp] theorem State.setDesc_ret (s : State) (d : DescId) (v : Bd) : (s.setDesc d v).ret = s.ret := rfl

/-! ### armStall -/

@[simp] theorem State.armStall_dev (s : State) (d : DescId) (n : Nat) (t : Bit) (stall : Bool) :
    (s.armStall d n t stall).dev = s.dev := rfl
@[simp] theorem State.armStall_irq (s : State) (d : DescId) (n : Nat) (t : Bit) (stall : Bool) :
    (s.armStall d n t stall).irq = s.irq := rfl
@[simp] theorem State.armStall_buf (s : State) (d : DescId) (n : Nat) (t : Bit) (stall : Bool) :
    (s.armStall d n t stall).buf = s.buf := rfl
@[simp] theorem State.armStall_ctl (s : State) (d : DescId) (n : Nat) (t : Bit) (stall : Bool) :
    (s.armStall d n t stall).ctl = s.ctl := rfl
@[simp] theorem State.armStall_pipeArmed (s : State) (d : DescId) (n : Nat) (t : Bit) (stall : Bool) :
    (s.armStall d n t stall).pipeArmed = s.pipeArmed := rfl
@[simp] theorem State.armStall_rx (s : State) (d : DescId) (n : Nat) (t : Bit) (stall : Bool) :
    (s.armStall d n t stall).rx = s.rx := rfl
@[simp] theorem State.armStall_tx (s : State) (d : DescId) (n : Nat) (t : Bit) (stall : Bool) :
    (s.armStall d n t stall).tx = s.tx := rfl
@[simp] theorem State.armStall_lc (s : State) (d : DescId) (n : Nat) (t : Bit) (stall : Bool) :
    (s.armStall d n t stall).lc = s.lc := rfl
@[simp] theorem State.armStall_resetReason (s : State) (d : DescId) (n : Nat) (t : Bit) (stall : Bool) :
    (s.armStall d n t stall).resetReason = s.resetReason := rfl
@[simp] theorem State.armStall_diag (s : State) (d : DescId) (n : Nat) (t : Bit) (stall : Bool) :
    (s.armStall d n t stall).diag = s.diag := rfl
@[simp] theorem State.armStall_main (s : State) (d : DescId) (n : Nat) (t : Bit) (stall : Bool) :
    (s.armStall d n t stall).main = s.main := rfl
@[simp] theorem State.armStall_sie (s : State) (d : DescId) (n : Nat) (t : Bit) (stall : Bool) :
    (s.armStall d n t stall).sie = s.sie := rfl
@[simp] theorem State.armStall_wireIn (s : State) (d : DescId) (n : Nat) (t : Bit) (stall : Bool) :
    (s.armStall d n t stall).wireIn = s.wireIn := rfl
@[simp] theorem State.armStall_sess (s : State) (d : DescId) (n : Nat) (t : Bit) (stall : Bool) :
    (s.armStall d n t stall).sess = s.sess := rfl
@[simp] theorem State.armStall_flashseq (s : State) (d : DescId) (n : Nat) (t : Bit) (stall : Bool) :
    (s.armStall d n t stall).flashseq = s.flashseq := rfl
@[simp] theorem State.armStall_busTrace (s : State) (d : DescId) (n : Nat) (t : Bit) (stall : Bool) :
    (s.armStall d n t stall).busTrace = s.busTrace := rfl
@[simp] theorem State.armStall_cfg (s : State) (d : DescId) (n : Nat) (t : Bit) (stall : Bool) :
    (s.armStall d n t stall).cfg = s.cfg := rfl
@[simp] theorem State.armStall_port (s : State) (d : DescId) (n : Nat) (t : Bit) (stall : Bool) :
    (s.armStall d n t stall).port = s.port := rfl
@[simp] theorem State.armStall_cart (s : State) (d : DescId) (n : Nat) (t : Bit) (stall : Bool) :
    (s.armStall d n t stall).cart = s.cart := rfl
@[simp] theorem State.armStall_draws (s : State) (d : DescId) (n : Nat) (t : Bit) (stall : Bool) :
    (s.armStall d n t stall).draws = s.draws := rfl
@[simp] theorem State.armStall_epoch (s : State) (d : DescId) (n : Nat) (t : Bit) (stall : Bool) :
    (s.armStall d n t stall).epoch = s.epoch := rfl
@[simp] theorem State.armStall_ret (s : State) (d : DescId) (n : Nat) (t : Bit) (stall : Bool) :
    (s.armStall d n t stall).ret = s.ret := rfl

/-! ### arm -/

@[simp] theorem State.arm_dev (s : State) (d : DescId) (n : Nat) (t : Bit) : (s.arm d n t).dev = s.dev := rfl
@[simp] theorem State.arm_irq (s : State) (d : DescId) (n : Nat) (t : Bit) : (s.arm d n t).irq = s.irq := rfl
@[simp] theorem State.arm_buf (s : State) (d : DescId) (n : Nat) (t : Bit) : (s.arm d n t).buf = s.buf := rfl
@[simp] theorem State.arm_ctl (s : State) (d : DescId) (n : Nat) (t : Bit) : (s.arm d n t).ctl = s.ctl := rfl
@[simp] theorem State.arm_pipeArmed (s : State) (d : DescId) (n : Nat) (t : Bit) :
    (s.arm d n t).pipeArmed = s.pipeArmed := rfl
@[simp] theorem State.arm_rx (s : State) (d : DescId) (n : Nat) (t : Bit) : (s.arm d n t).rx = s.rx := rfl
@[simp] theorem State.arm_tx (s : State) (d : DescId) (n : Nat) (t : Bit) : (s.arm d n t).tx = s.tx := rfl
@[simp] theorem State.arm_lc (s : State) (d : DescId) (n : Nat) (t : Bit) : (s.arm d n t).lc = s.lc := rfl
@[simp] theorem State.arm_resetReason (s : State) (d : DescId) (n : Nat) (t : Bit) :
    (s.arm d n t).resetReason = s.resetReason := rfl
@[simp] theorem State.arm_diag (s : State) (d : DescId) (n : Nat) (t : Bit) : (s.arm d n t).diag = s.diag := rfl
@[simp] theorem State.arm_main (s : State) (d : DescId) (n : Nat) (t : Bit) : (s.arm d n t).main = s.main := rfl
@[simp] theorem State.arm_sie (s : State) (d : DescId) (n : Nat) (t : Bit) : (s.arm d n t).sie = s.sie := rfl
@[simp] theorem State.arm_wireIn (s : State) (d : DescId) (n : Nat) (t : Bit) :
    (s.arm d n t).wireIn = s.wireIn := rfl
@[simp] theorem State.arm_sess (s : State) (d : DescId) (n : Nat) (t : Bit) : (s.arm d n t).sess = s.sess := rfl
@[simp] theorem State.arm_flashseq (s : State) (d : DescId) (n : Nat) (t : Bit) :
    (s.arm d n t).flashseq = s.flashseq := rfl
@[simp] theorem State.arm_busTrace (s : State) (d : DescId) (n : Nat) (t : Bit) :
    (s.arm d n t).busTrace = s.busTrace := rfl
@[simp] theorem State.arm_cfg (s : State) (d : DescId) (n : Nat) (t : Bit) : (s.arm d n t).cfg = s.cfg := rfl
@[simp] theorem State.arm_port (s : State) (d : DescId) (n : Nat) (t : Bit) : (s.arm d n t).port = s.port := rfl
@[simp] theorem State.arm_cart (s : State) (d : DescId) (n : Nat) (t : Bit) : (s.arm d n t).cart = s.cart := rfl
@[simp] theorem State.arm_draws (s : State) (d : DescId) (n : Nat) (t : Bit) : (s.arm d n t).draws = s.draws := rfl
@[simp] theorem State.arm_epoch (s : State) (d : DescId) (n : Nat) (t : Bit) : (s.arm d n t).epoch = s.epoch := rfl
@[simp] theorem State.arm_ret (s : State) (d : DescId) (n : Nat) (t : Bit) : (s.arm d n t).ret = s.ret := rfl

/-! ### setStalled -/

@[simp] theorem State.setStalled_dev (s : State) (d : DescId) : (s.setStalled d).dev = s.dev := rfl
@[simp] theorem State.setStalled_irq (s : State) (d : DescId) : (s.setStalled d).irq = s.irq := rfl
@[simp] theorem State.setStalled_buf (s : State) (d : DescId) : (s.setStalled d).buf = s.buf := rfl
@[simp] theorem State.setStalled_ctl (s : State) (d : DescId) : (s.setStalled d).ctl = s.ctl := rfl
@[simp] theorem State.setStalled_pipeArmed (s : State) (d : DescId) :
    (s.setStalled d).pipeArmed = s.pipeArmed := rfl
@[simp] theorem State.setStalled_rx (s : State) (d : DescId) : (s.setStalled d).rx = s.rx := rfl
@[simp] theorem State.setStalled_tx (s : State) (d : DescId) : (s.setStalled d).tx = s.tx := rfl
@[simp] theorem State.setStalled_lc (s : State) (d : DescId) : (s.setStalled d).lc = s.lc := rfl
@[simp] theorem State.setStalled_resetReason (s : State) (d : DescId) :
    (s.setStalled d).resetReason = s.resetReason := rfl
@[simp] theorem State.setStalled_diag (s : State) (d : DescId) : (s.setStalled d).diag = s.diag := rfl
@[simp] theorem State.setStalled_main (s : State) (d : DescId) : (s.setStalled d).main = s.main := rfl
@[simp] theorem State.setStalled_sie (s : State) (d : DescId) : (s.setStalled d).sie = s.sie := rfl
@[simp] theorem State.setStalled_wireIn (s : State) (d : DescId) : (s.setStalled d).wireIn = s.wireIn := rfl
@[simp] theorem State.setStalled_sess (s : State) (d : DescId) : (s.setStalled d).sess = s.sess := rfl
@[simp] theorem State.setStalled_flashseq (s : State) (d : DescId) : (s.setStalled d).flashseq = s.flashseq := rfl
@[simp] theorem State.setStalled_busTrace (s : State) (d : DescId) : (s.setStalled d).busTrace = s.busTrace := rfl
@[simp] theorem State.setStalled_cfg (s : State) (d : DescId) : (s.setStalled d).cfg = s.cfg := rfl
@[simp] theorem State.setStalled_port (s : State) (d : DescId) : (s.setStalled d).port = s.port := rfl
@[simp] theorem State.setStalled_cart (s : State) (d : DescId) : (s.setStalled d).cart = s.cart := rfl
@[simp] theorem State.setStalled_draws (s : State) (d : DescId) : (s.setStalled d).draws = s.draws := rfl
@[simp] theorem State.setStalled_epoch (s : State) (d : DescId) : (s.setStalled d).epoch = s.epoch := rfl
@[simp] theorem State.setStalled_ret (s : State) (d : DescId) : (s.setStalled d).ret = s.ret := rfl

/-! ### reclaim -/

@[simp] theorem State.reclaim_dev (s : State) (d : DescId) : (s.reclaim d).dev = s.dev := rfl
@[simp] theorem State.reclaim_irq (s : State) (d : DescId) : (s.reclaim d).irq = s.irq := rfl
@[simp] theorem State.reclaim_buf (s : State) (d : DescId) : (s.reclaim d).buf = s.buf := rfl
@[simp] theorem State.reclaim_ctl (s : State) (d : DescId) : (s.reclaim d).ctl = s.ctl := rfl
@[simp] theorem State.reclaim_pipeArmed (s : State) (d : DescId) : (s.reclaim d).pipeArmed = s.pipeArmed := rfl
@[simp] theorem State.reclaim_rx (s : State) (d : DescId) : (s.reclaim d).rx = s.rx := rfl
@[simp] theorem State.reclaim_tx (s : State) (d : DescId) : (s.reclaim d).tx = s.tx := rfl
@[simp] theorem State.reclaim_lc (s : State) (d : DescId) : (s.reclaim d).lc = s.lc := rfl
@[simp] theorem State.reclaim_resetReason (s : State) (d : DescId) :
    (s.reclaim d).resetReason = s.resetReason := rfl
@[simp] theorem State.reclaim_diag (s : State) (d : DescId) : (s.reclaim d).diag = s.diag := rfl
@[simp] theorem State.reclaim_main (s : State) (d : DescId) : (s.reclaim d).main = s.main := rfl
@[simp] theorem State.reclaim_sie (s : State) (d : DescId) : (s.reclaim d).sie = s.sie := rfl
@[simp] theorem State.reclaim_wireIn (s : State) (d : DescId) : (s.reclaim d).wireIn = s.wireIn := rfl
@[simp] theorem State.reclaim_sess (s : State) (d : DescId) : (s.reclaim d).sess = s.sess := rfl
@[simp] theorem State.reclaim_flashseq (s : State) (d : DescId) : (s.reclaim d).flashseq = s.flashseq := rfl
@[simp] theorem State.reclaim_busTrace (s : State) (d : DescId) : (s.reclaim d).busTrace = s.busTrace := rfl
@[simp] theorem State.reclaim_cfg (s : State) (d : DescId) : (s.reclaim d).cfg = s.cfg := rfl
@[simp] theorem State.reclaim_port (s : State) (d : DescId) : (s.reclaim d).port = s.port := rfl
@[simp] theorem State.reclaim_cart (s : State) (d : DescId) : (s.reclaim d).cart = s.cart := rfl
@[simp] theorem State.reclaim_draws (s : State) (d : DescId) : (s.reclaim d).draws = s.draws := rfl
@[simp] theorem State.reclaim_epoch (s : State) (d : DescId) : (s.reclaim d).epoch = s.epoch := rfl
@[simp] theorem State.reclaim_ret (s : State) (d : DescId) : (s.reclaim d).ret = s.ret := rfl

/-! ### idleBulkIn -/

@[simp] theorem State.idleBulkIn_dev (s : State) (h : Bit) : (s.idleBulkIn h).dev = s.dev := rfl
@[simp] theorem State.idleBulkIn_irq (s : State) (h : Bit) : (s.idleBulkIn h).irq = s.irq := rfl
@[simp] theorem State.idleBulkIn_buf (s : State) (h : Bit) : (s.idleBulkIn h).buf = s.buf := rfl
@[simp] theorem State.idleBulkIn_ctl (s : State) (h : Bit) : (s.idleBulkIn h).ctl = s.ctl := rfl
@[simp] theorem State.idleBulkIn_pipeArmed (s : State) (h : Bit) : (s.idleBulkIn h).pipeArmed = s.pipeArmed := rfl
@[simp] theorem State.idleBulkIn_rx (s : State) (h : Bit) : (s.idleBulkIn h).rx = s.rx := rfl
@[simp] theorem State.idleBulkIn_tx (s : State) (h : Bit) : (s.idleBulkIn h).tx = s.tx := rfl
@[simp] theorem State.idleBulkIn_lc (s : State) (h : Bit) : (s.idleBulkIn h).lc = s.lc := rfl
@[simp] theorem State.idleBulkIn_resetReason (s : State) (h : Bit) :
    (s.idleBulkIn h).resetReason = s.resetReason := rfl
@[simp] theorem State.idleBulkIn_diag (s : State) (h : Bit) : (s.idleBulkIn h).diag = s.diag := rfl
@[simp] theorem State.idleBulkIn_main (s : State) (h : Bit) : (s.idleBulkIn h).main = s.main := rfl
@[simp] theorem State.idleBulkIn_sie (s : State) (h : Bit) : (s.idleBulkIn h).sie = s.sie := rfl
@[simp] theorem State.idleBulkIn_wireIn (s : State) (h : Bit) : (s.idleBulkIn h).wireIn = s.wireIn := rfl
@[simp] theorem State.idleBulkIn_sess (s : State) (h : Bit) : (s.idleBulkIn h).sess = s.sess := rfl
@[simp] theorem State.idleBulkIn_flashseq (s : State) (h : Bit) : (s.idleBulkIn h).flashseq = s.flashseq := rfl
@[simp] theorem State.idleBulkIn_busTrace (s : State) (h : Bit) : (s.idleBulkIn h).busTrace = s.busTrace := rfl
@[simp] theorem State.idleBulkIn_cfg (s : State) (h : Bit) : (s.idleBulkIn h).cfg = s.cfg := rfl
@[simp] theorem State.idleBulkIn_port (s : State) (h : Bit) : (s.idleBulkIn h).port = s.port := rfl
@[simp] theorem State.idleBulkIn_cart (s : State) (h : Bit) : (s.idleBulkIn h).cart = s.cart := rfl
@[simp] theorem State.idleBulkIn_draws (s : State) (h : Bit) : (s.idleBulkIn h).draws = s.draws := rfl
@[simp] theorem State.idleBulkIn_epoch (s : State) (h : Bit) : (s.idleBulkIn h).epoch = s.epoch := rfl
@[simp] theorem State.idleBulkIn_ret (s : State) (h : Bit) : (s.idleBulkIn h).ret = s.ret := rfl

/-! ### stallAll -/

@[simp] theorem State.stallAll_dev (s : State) : (s.stallAll).dev = s.dev := by
  simp [State.stallAll]
@[simp] theorem State.stallAll_irq (s : State) : (s.stallAll).irq = s.irq := by
  simp [State.stallAll]
@[simp] theorem State.stallAll_buf (s : State) : (s.stallAll).buf = s.buf := by
  simp [State.stallAll]
@[simp] theorem State.stallAll_ctl (s : State) : (s.stallAll).ctl = s.ctl := by
  simp [State.stallAll]
@[simp] theorem State.stallAll_pipeArmed (s : State) : (s.stallAll).pipeArmed = s.pipeArmed := by
  simp [State.stallAll]
@[simp] theorem State.stallAll_rx (s : State) : (s.stallAll).rx = s.rx := by
  simp [State.stallAll]
@[simp] theorem State.stallAll_tx (s : State) : (s.stallAll).tx = s.tx := by
  simp [State.stallAll]
@[simp] theorem State.stallAll_lc (s : State) : (s.stallAll).lc = s.lc := by
  simp [State.stallAll]
@[simp] theorem State.stallAll_resetReason (s : State) : (s.stallAll).resetReason = s.resetReason := by
  simp [State.stallAll]
@[simp] theorem State.stallAll_diag (s : State) : (s.stallAll).diag = s.diag := by
  simp [State.stallAll]
@[simp] theorem State.stallAll_main (s : State) : (s.stallAll).main = s.main := by
  simp [State.stallAll]
@[simp] theorem State.stallAll_sie (s : State) : (s.stallAll).sie = s.sie := by
  simp [State.stallAll]
@[simp] theorem State.stallAll_wireIn (s : State) : (s.stallAll).wireIn = s.wireIn := by
  simp [State.stallAll]
@[simp] theorem State.stallAll_sess (s : State) : (s.stallAll).sess = s.sess := by
  simp [State.stallAll]
@[simp] theorem State.stallAll_flashseq (s : State) : (s.stallAll).flashseq = s.flashseq := by
  simp [State.stallAll]
@[simp] theorem State.stallAll_busTrace (s : State) : (s.stallAll).busTrace = s.busTrace := by
  simp [State.stallAll]
@[simp] theorem State.stallAll_cfg (s : State) : (s.stallAll).cfg = s.cfg := by
  simp [State.stallAll]
@[simp] theorem State.stallAll_port (s : State) : (s.stallAll).port = s.port := by
  simp [State.stallAll]
@[simp] theorem State.stallAll_cart (s : State) : (s.stallAll).cart = s.cart := by
  simp [State.stallAll]
@[simp] theorem State.stallAll_draws (s : State) : (s.stallAll).draws = s.draws := by
  simp [State.stallAll]
@[simp] theorem State.stallAll_epoch (s : State) : (s.stallAll).epoch = s.epoch := by
  simp [State.stallAll]
@[simp] theorem State.stallAll_ret (s : State) : (s.stallAll).ret = s.ret := by
  simp [State.stallAll]

/-! ### setMask -/

@[simp] theorem State.setMask_dev (s : State) (v : BitVec 8) : (s.setMask v).dev = s.dev := rfl
@[simp] theorem State.setMask_bd (s : State) (v : BitVec 8) : (s.setMask v).bd = s.bd := rfl
@[simp] theorem State.setMask_buf (s : State) (v : BitVec 8) : (s.setMask v).buf = s.buf := rfl
@[simp] theorem State.setMask_ctl (s : State) (v : BitVec 8) : (s.setMask v).ctl = s.ctl := rfl
@[simp] theorem State.setMask_pipeArmed (s : State) (v : BitVec 8) : (s.setMask v).pipeArmed = s.pipeArmed := rfl
@[simp] theorem State.setMask_rx (s : State) (v : BitVec 8) : (s.setMask v).rx = s.rx := rfl
@[simp] theorem State.setMask_tx (s : State) (v : BitVec 8) : (s.setMask v).tx = s.tx := rfl
@[simp] theorem State.setMask_lc (s : State) (v : BitVec 8) : (s.setMask v).lc = s.lc := rfl
@[simp] theorem State.setMask_resetReason (s : State) (v : BitVec 8) :
    (s.setMask v).resetReason = s.resetReason := rfl
@[simp] theorem State.setMask_diag (s : State) (v : BitVec 8) : (s.setMask v).diag = s.diag := rfl
@[simp] theorem State.setMask_main (s : State) (v : BitVec 8) : (s.setMask v).main = s.main := rfl
@[simp] theorem State.setMask_sie (s : State) (v : BitVec 8) : (s.setMask v).sie = s.sie := rfl
@[simp] theorem State.setMask_wireIn (s : State) (v : BitVec 8) : (s.setMask v).wireIn = s.wireIn := rfl
@[simp] theorem State.setMask_sess (s : State) (v : BitVec 8) : (s.setMask v).sess = s.sess := rfl
@[simp] theorem State.setMask_flashseq (s : State) (v : BitVec 8) : (s.setMask v).flashseq = s.flashseq := rfl
@[simp] theorem State.setMask_busTrace (s : State) (v : BitVec 8) : (s.setMask v).busTrace = s.busTrace := rfl
@[simp] theorem State.setMask_cfg (s : State) (v : BitVec 8) : (s.setMask v).cfg = s.cfg := rfl
@[simp] theorem State.setMask_port (s : State) (v : BitVec 8) : (s.setMask v).port = s.port := rfl
@[simp] theorem State.setMask_cart (s : State) (v : BitVec 8) : (s.setMask v).cart = s.cart := rfl
@[simp] theorem State.setMask_draws (s : State) (v : BitVec 8) : (s.setMask v).draws = s.draws := rfl
@[simp] theorem State.setMask_epoch (s : State) (v : BitVec 8) : (s.setMask v).epoch = s.epoch := rfl
@[simp] theorem State.setMask_ret (s : State) (v : BitVec 8) : (s.setMask v).ret = s.ret := rfl

/-! ### setEnable -/

@[simp] theorem State.setEnable_dev (s : State) (v : Bool) : (s.setEnable v).dev = s.dev := rfl
@[simp] theorem State.setEnable_bd (s : State) (v : Bool) : (s.setEnable v).bd = s.bd := rfl
@[simp] theorem State.setEnable_buf (s : State) (v : Bool) : (s.setEnable v).buf = s.buf := rfl
@[simp] theorem State.setEnable_ctl (s : State) (v : Bool) : (s.setEnable v).ctl = s.ctl := rfl
@[simp] theorem State.setEnable_pipeArmed (s : State) (v : Bool) : (s.setEnable v).pipeArmed = s.pipeArmed := rfl
@[simp] theorem State.setEnable_rx (s : State) (v : Bool) : (s.setEnable v).rx = s.rx := rfl
@[simp] theorem State.setEnable_tx (s : State) (v : Bool) : (s.setEnable v).tx = s.tx := rfl
@[simp] theorem State.setEnable_lc (s : State) (v : Bool) : (s.setEnable v).lc = s.lc := rfl
@[simp] theorem State.setEnable_resetReason (s : State) (v : Bool) :
    (s.setEnable v).resetReason = s.resetReason := rfl
@[simp] theorem State.setEnable_diag (s : State) (v : Bool) : (s.setEnable v).diag = s.diag := rfl
@[simp] theorem State.setEnable_main (s : State) (v : Bool) : (s.setEnable v).main = s.main := rfl
@[simp] theorem State.setEnable_sie (s : State) (v : Bool) : (s.setEnable v).sie = s.sie := rfl
@[simp] theorem State.setEnable_wireIn (s : State) (v : Bool) : (s.setEnable v).wireIn = s.wireIn := rfl
@[simp] theorem State.setEnable_sess (s : State) (v : Bool) : (s.setEnable v).sess = s.sess := rfl
@[simp] theorem State.setEnable_flashseq (s : State) (v : Bool) : (s.setEnable v).flashseq = s.flashseq := rfl
@[simp] theorem State.setEnable_busTrace (s : State) (v : Bool) : (s.setEnable v).busTrace = s.busTrace := rfl
@[simp] theorem State.setEnable_cfg (s : State) (v : Bool) : (s.setEnable v).cfg = s.cfg := rfl
@[simp] theorem State.setEnable_port (s : State) (v : Bool) : (s.setEnable v).port = s.port := rfl
@[simp] theorem State.setEnable_cart (s : State) (v : Bool) : (s.setEnable v).cart = s.cart := rfl
@[simp] theorem State.setEnable_draws (s : State) (v : Bool) : (s.setEnable v).draws = s.draws := rfl
@[simp] theorem State.setEnable_epoch (s : State) (v : Bool) : (s.setEnable v).epoch = s.epoch := rfl
@[simp] theorem State.setEnable_ret (s : State) (v : Bool) : (s.setEnable v).ret = s.ret := rfl

/-! ### setPending -/

@[simp] theorem State.setPending_dev (s : State) (v : Pending) : (s.setPending v).dev = s.dev := rfl
@[simp] theorem State.setPending_bd (s : State) (v : Pending) : (s.setPending v).bd = s.bd := rfl
@[simp] theorem State.setPending_buf (s : State) (v : Pending) : (s.setPending v).buf = s.buf := rfl
@[simp] theorem State.setPending_ctl (s : State) (v : Pending) : (s.setPending v).ctl = s.ctl := rfl
@[simp] theorem State.setPending_pipeArmed (s : State) (v : Pending) :
    (s.setPending v).pipeArmed = s.pipeArmed := rfl
@[simp] theorem State.setPending_rx (s : State) (v : Pending) : (s.setPending v).rx = s.rx := rfl
@[simp] theorem State.setPending_tx (s : State) (v : Pending) : (s.setPending v).tx = s.tx := rfl
@[simp] theorem State.setPending_lc (s : State) (v : Pending) : (s.setPending v).lc = s.lc := rfl
@[simp] theorem State.setPending_resetReason (s : State) (v : Pending) :
    (s.setPending v).resetReason = s.resetReason := rfl
@[simp] theorem State.setPending_diag (s : State) (v : Pending) : (s.setPending v).diag = s.diag := rfl
@[simp] theorem State.setPending_main (s : State) (v : Pending) : (s.setPending v).main = s.main := rfl
@[simp] theorem State.setPending_sie (s : State) (v : Pending) : (s.setPending v).sie = s.sie := rfl
@[simp] theorem State.setPending_wireIn (s : State) (v : Pending) : (s.setPending v).wireIn = s.wireIn := rfl
@[simp] theorem State.setPending_sess (s : State) (v : Pending) : (s.setPending v).sess = s.sess := rfl
@[simp] theorem State.setPending_flashseq (s : State) (v : Pending) : (s.setPending v).flashseq = s.flashseq := rfl
@[simp] theorem State.setPending_busTrace (s : State) (v : Pending) : (s.setPending v).busTrace = s.busTrace := rfl
@[simp] theorem State.setPending_cfg (s : State) (v : Pending) : (s.setPending v).cfg = s.cfg := rfl
@[simp] theorem State.setPending_port (s : State) (v : Pending) : (s.setPending v).port = s.port := rfl
@[simp] theorem State.setPending_cart (s : State) (v : Pending) : (s.setPending v).cart = s.cart := rfl
@[simp] theorem State.setPending_draws (s : State) (v : Pending) : (s.setPending v).draws = s.draws := rfl
@[simp] theorem State.setPending_epoch (s : State) (v : Pending) : (s.setPending v).epoch = s.epoch := rfl
@[simp] theorem State.setPending_ret (s : State) (v : Pending) : (s.setPending v).ret = s.ret := rfl

/-! ### setTrn -/

@[simp] theorem State.setTrn_dev (s : State) (v : List Completion) : (s.setTrn v).dev = s.dev := rfl
@[simp] theorem State.setTrn_bd (s : State) (v : List Completion) : (s.setTrn v).bd = s.bd := rfl
@[simp] theorem State.setTrn_buf (s : State) (v : List Completion) : (s.setTrn v).buf = s.buf := rfl
@[simp] theorem State.setTrn_ctl (s : State) (v : List Completion) : (s.setTrn v).ctl = s.ctl := rfl
@[simp] theorem State.setTrn_pipeArmed (s : State) (v : List Completion) :
    (s.setTrn v).pipeArmed = s.pipeArmed := rfl
@[simp] theorem State.setTrn_rx (s : State) (v : List Completion) : (s.setTrn v).rx = s.rx := rfl
@[simp] theorem State.setTrn_tx (s : State) (v : List Completion) : (s.setTrn v).tx = s.tx := rfl
@[simp] theorem State.setTrn_lc (s : State) (v : List Completion) : (s.setTrn v).lc = s.lc := rfl
@[simp] theorem State.setTrn_resetReason (s : State) (v : List Completion) :
    (s.setTrn v).resetReason = s.resetReason := rfl
@[simp] theorem State.setTrn_diag (s : State) (v : List Completion) : (s.setTrn v).diag = s.diag := rfl
@[simp] theorem State.setTrn_main (s : State) (v : List Completion) : (s.setTrn v).main = s.main := rfl
@[simp] theorem State.setTrn_sie (s : State) (v : List Completion) : (s.setTrn v).sie = s.sie := rfl
@[simp] theorem State.setTrn_wireIn (s : State) (v : List Completion) : (s.setTrn v).wireIn = s.wireIn := rfl
@[simp] theorem State.setTrn_sess (s : State) (v : List Completion) : (s.setTrn v).sess = s.sess := rfl
@[simp] theorem State.setTrn_flashseq (s : State) (v : List Completion) : (s.setTrn v).flashseq = s.flashseq := rfl
@[simp] theorem State.setTrn_busTrace (s : State) (v : List Completion) : (s.setTrn v).busTrace = s.busTrace := rfl
@[simp] theorem State.setTrn_cfg (s : State) (v : List Completion) : (s.setTrn v).cfg = s.cfg := rfl
@[simp] theorem State.setTrn_port (s : State) (v : List Completion) : (s.setTrn v).port = s.port := rfl
@[simp] theorem State.setTrn_cart (s : State) (v : List Completion) : (s.setTrn v).cart = s.cart := rfl
@[simp] theorem State.setTrn_draws (s : State) (v : List Completion) : (s.setTrn v).draws = s.draws := rfl
@[simp] theorem State.setTrn_epoch (s : State) (v : List Completion) : (s.setTrn v).epoch = s.epoch := rfl
@[simp] theorem State.setTrn_ret (s : State) (v : List Completion) : (s.setTrn v).ret = s.ret := rfl

/-! ### noteActivity -/

@[simp] theorem State.noteActivity_dev (s : State) : (s.noteActivity).dev = s.dev := by
  unfold State.noteActivity; split <;> rfl
@[simp] theorem State.noteActivity_bd (s : State) : (s.noteActivity).bd = s.bd := by
  unfold State.noteActivity; split <;> rfl
@[simp] theorem State.noteActivity_buf (s : State) : (s.noteActivity).buf = s.buf := by
  unfold State.noteActivity; split <;> rfl
@[simp] theorem State.noteActivity_ctl (s : State) : (s.noteActivity).ctl = s.ctl := by
  unfold State.noteActivity; split <;> rfl
@[simp] theorem State.noteActivity_pipeArmed (s : State) : (s.noteActivity).pipeArmed = s.pipeArmed := by
  unfold State.noteActivity; split <;> rfl
@[simp] theorem State.noteActivity_rx (s : State) : (s.noteActivity).rx = s.rx := by
  unfold State.noteActivity; split <;> rfl
@[simp] theorem State.noteActivity_tx (s : State) : (s.noteActivity).tx = s.tx := by
  unfold State.noteActivity; split <;> rfl
@[simp] theorem State.noteActivity_lc (s : State) : (s.noteActivity).lc = s.lc := by
  unfold State.noteActivity; split <;> rfl
@[simp] theorem State.noteActivity_resetReason (s : State) : (s.noteActivity).resetReason = s.resetReason := by
  unfold State.noteActivity; split <;> rfl
@[simp] theorem State.noteActivity_diag (s : State) : (s.noteActivity).diag = s.diag := by
  unfold State.noteActivity; split <;> rfl
@[simp] theorem State.noteActivity_main (s : State) : (s.noteActivity).main = s.main := by
  unfold State.noteActivity; split <;> rfl
@[simp] theorem State.noteActivity_sie (s : State) : (s.noteActivity).sie = s.sie := by
  unfold State.noteActivity; split <;> rfl
@[simp] theorem State.noteActivity_wireIn (s : State) : (s.noteActivity).wireIn = s.wireIn := by
  unfold State.noteActivity; split <;> rfl
@[simp] theorem State.noteActivity_sess (s : State) : (s.noteActivity).sess = s.sess := by
  unfold State.noteActivity; split <;> rfl
@[simp] theorem State.noteActivity_flashseq (s : State) : (s.noteActivity).flashseq = s.flashseq := by
  unfold State.noteActivity; split <;> rfl
@[simp] theorem State.noteActivity_busTrace (s : State) : (s.noteActivity).busTrace = s.busTrace := by
  unfold State.noteActivity; split <;> rfl
@[simp] theorem State.noteActivity_cfg (s : State) : (s.noteActivity).cfg = s.cfg := by
  unfold State.noteActivity; split <;> rfl
@[simp] theorem State.noteActivity_port (s : State) : (s.noteActivity).port = s.port := by
  unfold State.noteActivity; split <;> rfl
@[simp] theorem State.noteActivity_cart (s : State) : (s.noteActivity).cart = s.cart := by
  unfold State.noteActivity; split <;> rfl
@[simp] theorem State.noteActivity_draws (s : State) : (s.noteActivity).draws = s.draws := by
  unfold State.noteActivity; split <;> rfl
@[simp] theorem State.noteActivity_epoch (s : State) : (s.noteActivity).epoch = s.epoch := by
  unfold State.noteActivity; split <;> rfl
@[simp] theorem State.noteActivity_ret (s : State) : (s.noteActivity).ret = s.ret := by
  unfold State.noteActivity; split <;> rfl

/-! ### complete -/

@[simp] theorem State.complete_dev (s : State) (d : DescId) (r : Completion) : (s.complete d r).dev = s.dev := by
  simp [State.complete]
@[simp] theorem State.complete_buf (s : State) (d : DescId) (r : Completion) : (s.complete d r).buf = s.buf := by
  simp [State.complete]
@[simp] theorem State.complete_ctl (s : State) (d : DescId) (r : Completion) : (s.complete d r).ctl = s.ctl := by
  simp [State.complete]
@[simp] theorem State.complete_pipeArmed (s : State) (d : DescId) (r : Completion) :
    (s.complete d r).pipeArmed = s.pipeArmed := by
  simp [State.complete]
@[simp] theorem State.complete_rx (s : State) (d : DescId) (r : Completion) : (s.complete d r).rx = s.rx := by
  simp [State.complete]
@[simp] theorem State.complete_tx (s : State) (d : DescId) (r : Completion) : (s.complete d r).tx = s.tx := by
  simp [State.complete]
@[simp] theorem State.complete_lc (s : State) (d : DescId) (r : Completion) : (s.complete d r).lc = s.lc := by
  simp [State.complete]
@[simp] theorem State.complete_resetReason (s : State) (d : DescId) (r : Completion) :
    (s.complete d r).resetReason = s.resetReason := by
  simp [State.complete]
@[simp] theorem State.complete_diag (s : State) (d : DescId) (r : Completion) :
    (s.complete d r).diag = s.diag := by
  simp [State.complete]
@[simp] theorem State.complete_main (s : State) (d : DescId) (r : Completion) :
    (s.complete d r).main = s.main := by
  simp [State.complete]
@[simp] theorem State.complete_sie (s : State) (d : DescId) (r : Completion) : (s.complete d r).sie = s.sie := by
  simp [State.complete]
@[simp] theorem State.complete_wireIn (s : State) (d : DescId) (r : Completion) :
    (s.complete d r).wireIn = s.wireIn := by
  simp [State.complete]
@[simp] theorem State.complete_sess (s : State) (d : DescId) (r : Completion) :
    (s.complete d r).sess = s.sess := by
  simp [State.complete]
@[simp] theorem State.complete_flashseq (s : State) (d : DescId) (r : Completion) :
    (s.complete d r).flashseq = s.flashseq := by
  simp [State.complete]
@[simp] theorem State.complete_busTrace (s : State) (d : DescId) (r : Completion) :
    (s.complete d r).busTrace = s.busTrace := by
  simp [State.complete]
@[simp] theorem State.complete_cfg (s : State) (d : DescId) (r : Completion) : (s.complete d r).cfg = s.cfg := by
  simp [State.complete]
@[simp] theorem State.complete_port (s : State) (d : DescId) (r : Completion) :
    (s.complete d r).port = s.port := by
  simp [State.complete]
@[simp] theorem State.complete_cart (s : State) (d : DescId) (r : Completion) :
    (s.complete d r).cart = s.cart := by
  simp [State.complete]
@[simp] theorem State.complete_draws (s : State) (d : DescId) (r : Completion) :
    (s.complete d r).draws = s.draws := by
  simp [State.complete]
@[simp] theorem State.complete_epoch (s : State) (d : DescId) (r : Completion) :
    (s.complete d r).epoch = s.epoch := by
  simp [State.complete]
@[simp] theorem State.complete_ret (s : State) (d : DescId) (r : Completion) : (s.complete d r).ret = s.ret := by
  simp [State.complete]

/-! ### receive -/

@[simp] theorem State.receive_dev (s : State) (d : DescId) (bs : List Byte) (r : Completion) :
    (s.receive d bs r).dev = s.dev := by
  simp [State.receive]
@[simp] theorem State.receive_ctl (s : State) (d : DescId) (bs : List Byte) (r : Completion) :
    (s.receive d bs r).ctl = s.ctl := by
  simp [State.receive]
@[simp] theorem State.receive_pipeArmed (s : State) (d : DescId) (bs : List Byte) (r : Completion) :
    (s.receive d bs r).pipeArmed = s.pipeArmed := by
  simp [State.receive]
@[simp] theorem State.receive_rx (s : State) (d : DescId) (bs : List Byte) (r : Completion) :
    (s.receive d bs r).rx = s.rx := by
  simp [State.receive]
@[simp] theorem State.receive_tx (s : State) (d : DescId) (bs : List Byte) (r : Completion) :
    (s.receive d bs r).tx = s.tx := by
  simp [State.receive]
@[simp] theorem State.receive_lc (s : State) (d : DescId) (bs : List Byte) (r : Completion) :
    (s.receive d bs r).lc = s.lc := by
  simp [State.receive]
@[simp] theorem State.receive_resetReason (s : State) (d : DescId) (bs : List Byte) (r : Completion) :
    (s.receive d bs r).resetReason = s.resetReason := by
  simp [State.receive]
@[simp] theorem State.receive_diag (s : State) (d : DescId) (bs : List Byte) (r : Completion) :
    (s.receive d bs r).diag = s.diag := by
  simp [State.receive]
@[simp] theorem State.receive_main (s : State) (d : DescId) (bs : List Byte) (r : Completion) :
    (s.receive d bs r).main = s.main := by
  simp [State.receive]
@[simp] theorem State.receive_sie (s : State) (d : DescId) (bs : List Byte) (r : Completion) :
    (s.receive d bs r).sie = s.sie := by
  simp [State.receive]
@[simp] theorem State.receive_wireIn (s : State) (d : DescId) (bs : List Byte) (r : Completion) :
    (s.receive d bs r).wireIn = s.wireIn := by
  simp [State.receive]
@[simp] theorem State.receive_sess (s : State) (d : DescId) (bs : List Byte) (r : Completion) :
    (s.receive d bs r).sess = s.sess := by
  simp [State.receive]
@[simp] theorem State.receive_flashseq (s : State) (d : DescId) (bs : List Byte) (r : Completion) :
    (s.receive d bs r).flashseq = s.flashseq := by
  simp [State.receive]
@[simp] theorem State.receive_busTrace (s : State) (d : DescId) (bs : List Byte) (r : Completion) :
    (s.receive d bs r).busTrace = s.busTrace := by
  simp [State.receive]
@[simp] theorem State.receive_cfg (s : State) (d : DescId) (bs : List Byte) (r : Completion) :
    (s.receive d bs r).cfg = s.cfg := by
  simp [State.receive]
@[simp] theorem State.receive_port (s : State) (d : DescId) (bs : List Byte) (r : Completion) :
    (s.receive d bs r).port = s.port := by
  simp [State.receive]
@[simp] theorem State.receive_cart (s : State) (d : DescId) (bs : List Byte) (r : Completion) :
    (s.receive d bs r).cart = s.cart := by
  simp [State.receive]
@[simp] theorem State.receive_draws (s : State) (d : DescId) (bs : List Byte) (r : Completion) :
    (s.receive d bs r).draws = s.draws := by
  simp [State.receive]
@[simp] theorem State.receive_epoch (s : State) (d : DescId) (bs : List Byte) (r : Completion) :
    (s.receive d bs r).epoch = s.epoch := by
  simp [State.receive]
@[simp] theorem State.receive_ret (s : State) (d : DescId) (bs : List Byte) (r : Completion) :
    (s.receive d bs r).ret = s.ret := by
  simp [State.receive]

/-! ### transmit -/

@[simp] theorem State.transmit_dev (s : State) (d : DescId) (r : Completion) : (s.transmit d r).dev = s.dev := by
  simp [State.transmit]
@[simp] theorem State.transmit_buf (s : State) (d : DescId) (r : Completion) : (s.transmit d r).buf = s.buf := by
  simp [State.transmit]
@[simp] theorem State.transmit_ctl (s : State) (d : DescId) (r : Completion) : (s.transmit d r).ctl = s.ctl := by
  simp [State.transmit]
@[simp] theorem State.transmit_pipeArmed (s : State) (d : DescId) (r : Completion) :
    (s.transmit d r).pipeArmed = s.pipeArmed := by
  simp [State.transmit]
@[simp] theorem State.transmit_rx (s : State) (d : DescId) (r : Completion) : (s.transmit d r).rx = s.rx := by
  simp [State.transmit]
@[simp] theorem State.transmit_tx (s : State) (d : DescId) (r : Completion) : (s.transmit d r).tx = s.tx := by
  simp [State.transmit]
@[simp] theorem State.transmit_lc (s : State) (d : DescId) (r : Completion) : (s.transmit d r).lc = s.lc := by
  simp [State.transmit]
@[simp] theorem State.transmit_resetReason (s : State) (d : DescId) (r : Completion) :
    (s.transmit d r).resetReason = s.resetReason := by
  simp [State.transmit]
@[simp] theorem State.transmit_diag (s : State) (d : DescId) (r : Completion) :
    (s.transmit d r).diag = s.diag := by
  simp [State.transmit]
@[simp] theorem State.transmit_main (s : State) (d : DescId) (r : Completion) :
    (s.transmit d r).main = s.main := by
  simp [State.transmit]
@[simp] theorem State.transmit_sie (s : State) (d : DescId) (r : Completion) : (s.transmit d r).sie = s.sie := by
  simp [State.transmit]
@[simp] theorem State.transmit_sess (s : State) (d : DescId) (r : Completion) :
    (s.transmit d r).sess = s.sess := by
  simp [State.transmit]
@[simp] theorem State.transmit_flashseq (s : State) (d : DescId) (r : Completion) :
    (s.transmit d r).flashseq = s.flashseq := by
  simp [State.transmit]
@[simp] theorem State.transmit_busTrace (s : State) (d : DescId) (r : Completion) :
    (s.transmit d r).busTrace = s.busTrace := by
  simp [State.transmit]
@[simp] theorem State.transmit_cfg (s : State) (d : DescId) (r : Completion) : (s.transmit d r).cfg = s.cfg := by
  simp [State.transmit]
@[simp] theorem State.transmit_port (s : State) (d : DescId) (r : Completion) :
    (s.transmit d r).port = s.port := by
  simp [State.transmit]
@[simp] theorem State.transmit_cart (s : State) (d : DescId) (r : Completion) :
    (s.transmit d r).cart = s.cart := by
  simp [State.transmit]
@[simp] theorem State.transmit_draws (s : State) (d : DescId) (r : Completion) :
    (s.transmit d r).draws = s.draws := by
  simp [State.transmit]
@[simp] theorem State.transmit_epoch (s : State) (d : DescId) (r : Completion) :
    (s.transmit d r).epoch = s.epoch := by
  simp [State.transmit]
@[simp] theorem State.transmit_ret (s : State) (d : DescId) (r : Completion) : (s.transmit d r).ret = s.ret := by
  simp [State.transmit]

/-! ### drew -/

@[simp] theorem State.drew_dev (s : State) (n : Nat) : (s.drew n).dev = s.dev := rfl
@[simp] theorem State.drew_irq (s : State) (n : Nat) : (s.drew n).irq = s.irq := rfl
@[simp] theorem State.drew_bd (s : State) (n : Nat) : (s.drew n).bd = s.bd := rfl
@[simp] theorem State.drew_buf (s : State) (n : Nat) : (s.drew n).buf = s.buf := rfl
@[simp] theorem State.drew_ctl (s : State) (n : Nat) : (s.drew n).ctl = s.ctl := rfl
@[simp] theorem State.drew_pipeArmed (s : State) (n : Nat) : (s.drew n).pipeArmed = s.pipeArmed := rfl
@[simp] theorem State.drew_rx (s : State) (n : Nat) : (s.drew n).rx = s.rx := rfl
@[simp] theorem State.drew_tx (s : State) (n : Nat) : (s.drew n).tx = s.tx := rfl
@[simp] theorem State.drew_lc (s : State) (n : Nat) : (s.drew n).lc = s.lc := rfl
@[simp] theorem State.drew_resetReason (s : State) (n : Nat) : (s.drew n).resetReason = s.resetReason := rfl
@[simp] theorem State.drew_diag (s : State) (n : Nat) : (s.drew n).diag = s.diag := rfl
@[simp] theorem State.drew_main (s : State) (n : Nat) : (s.drew n).main = s.main := rfl
@[simp] theorem State.drew_sie (s : State) (n : Nat) : (s.drew n).sie = s.sie := rfl
@[simp] theorem State.drew_wireIn (s : State) (n : Nat) : (s.drew n).wireIn = s.wireIn := rfl
@[simp] theorem State.drew_sess (s : State) (n : Nat) : (s.drew n).sess = s.sess := rfl
@[simp] theorem State.drew_flashseq (s : State) (n : Nat) : (s.drew n).flashseq = s.flashseq := rfl
@[simp] theorem State.drew_busTrace (s : State) (n : Nat) : (s.drew n).busTrace = s.busTrace := rfl
@[simp] theorem State.drew_cfg (s : State) (n : Nat) : (s.drew n).cfg = s.cfg := rfl
@[simp] theorem State.drew_port (s : State) (n : Nat) : (s.drew n).port = s.port := rfl
@[simp] theorem State.drew_cart (s : State) (n : Nat) : (s.drew n).cart = s.cart := rfl
@[simp] theorem State.drew_epoch (s : State) (n : Nat) : (s.drew n).epoch = s.epoch := rfl
@[simp] theorem State.drew_ret (s : State) (n : Nat) : (s.drew n).ret = s.ret := rfl

/-! ### finishCommand -/

@[simp] theorem State.finishCommand_dev (s : State) : (s.finishCommand).dev = s.dev := rfl
@[simp] theorem State.finishCommand_irq (s : State) : (s.finishCommand).irq = s.irq := rfl
@[simp] theorem State.finishCommand_bd (s : State) : (s.finishCommand).bd = s.bd := rfl
@[simp] theorem State.finishCommand_buf (s : State) : (s.finishCommand).buf = s.buf := rfl
@[simp] theorem State.finishCommand_ctl (s : State) : (s.finishCommand).ctl = s.ctl := rfl
@[simp] theorem State.finishCommand_pipeArmed (s : State) : (s.finishCommand).pipeArmed = s.pipeArmed := rfl
@[simp] theorem State.finishCommand_rx (s : State) : (s.finishCommand).rx = s.rx := rfl
@[simp] theorem State.finishCommand_tx (s : State) : (s.finishCommand).tx = s.tx := rfl
@[simp] theorem State.finishCommand_lc (s : State) : (s.finishCommand).lc = s.lc := rfl
@[simp] theorem State.finishCommand_resetReason (s : State) : (s.finishCommand).resetReason = s.resetReason := rfl
@[simp] theorem State.finishCommand_diag (s : State) : (s.finishCommand).diag = s.diag := rfl
@[simp] theorem State.finishCommand_main (s : State) : (s.finishCommand).main = s.main := rfl
@[simp] theorem State.finishCommand_sie (s : State) : (s.finishCommand).sie = s.sie := rfl
@[simp] theorem State.finishCommand_wireIn (s : State) : (s.finishCommand).wireIn = s.wireIn := rfl
@[simp] theorem State.finishCommand_flashseq (s : State) : (s.finishCommand).flashseq = s.flashseq := rfl
@[simp] theorem State.finishCommand_busTrace (s : State) : (s.finishCommand).busTrace = s.busTrace := rfl
@[simp] theorem State.finishCommand_cfg (s : State) : (s.finishCommand).cfg = s.cfg := rfl
@[simp] theorem State.finishCommand_port (s : State) : (s.finishCommand).port = s.port := rfl
@[simp] theorem State.finishCommand_cart (s : State) : (s.finishCommand).cart = s.cart := rfl
@[simp] theorem State.finishCommand_draws (s : State) : (s.finishCommand).draws = s.draws := rfl
@[simp] theorem State.finishCommand_epoch (s : State) : (s.finishCommand).epoch = s.epoch := rfl
@[simp] theorem State.finishCommand_ret (s : State) : (s.finishCommand).ret = s.ret := rfl

/-! ### resetParser -/

@[simp] theorem State.resetParser_dev (s : State) : (s.resetParser).dev = s.dev := rfl
@[simp] theorem State.resetParser_irq (s : State) : (s.resetParser).irq = s.irq := rfl
@[simp] theorem State.resetParser_bd (s : State) : (s.resetParser).bd = s.bd := rfl
@[simp] theorem State.resetParser_buf (s : State) : (s.resetParser).buf = s.buf := rfl
@[simp] theorem State.resetParser_ctl (s : State) : (s.resetParser).ctl = s.ctl := rfl
@[simp] theorem State.resetParser_pipeArmed (s : State) : (s.resetParser).pipeArmed = s.pipeArmed := rfl
@[simp] theorem State.resetParser_rx (s : State) : (s.resetParser).rx = s.rx := rfl
@[simp] theorem State.resetParser_tx (s : State) : (s.resetParser).tx = s.tx := rfl
@[simp] theorem State.resetParser_lc (s : State) : (s.resetParser).lc = s.lc := rfl
@[simp] theorem State.resetParser_resetReason (s : State) : (s.resetParser).resetReason = s.resetReason := rfl
@[simp] theorem State.resetParser_diag (s : State) : (s.resetParser).diag = s.diag := rfl
@[simp] theorem State.resetParser_main (s : State) : (s.resetParser).main = s.main := rfl
@[simp] theorem State.resetParser_sie (s : State) : (s.resetParser).sie = s.sie := rfl
@[simp] theorem State.resetParser_wireIn (s : State) : (s.resetParser).wireIn = s.wireIn := rfl
@[simp] theorem State.resetParser_flashseq (s : State) : (s.resetParser).flashseq = s.flashseq := rfl
@[simp] theorem State.resetParser_busTrace (s : State) : (s.resetParser).busTrace = s.busTrace := rfl
@[simp] theorem State.resetParser_cfg (s : State) : (s.resetParser).cfg = s.cfg := rfl
@[simp] theorem State.resetParser_port (s : State) : (s.resetParser).port = s.port := rfl
@[simp] theorem State.resetParser_cart (s : State) : (s.resetParser).cart = s.cart := rfl
@[simp] theorem State.resetParser_draws (s : State) : (s.resetParser).draws = s.draws := rfl
@[simp] theorem State.resetParser_epoch (s : State) : (s.resetParser).epoch = s.epoch := rfl
@[simp] theorem State.resetParser_ret (s : State) : (s.resetParser).ret = s.ret := rfl

/-! ### pipeClear -/

@[simp] theorem State.pipeClear_dev (s : State) : (s.pipeClear).dev = s.dev := by
  simp [State.pipeClear]
@[simp] theorem State.pipeClear_irq (s : State) : (s.pipeClear).irq = s.irq := by
  simp [State.pipeClear]
@[simp] theorem State.pipeClear_bd (s : State) : (s.pipeClear).bd = s.bd := by
  simp [State.pipeClear]
@[simp] theorem State.pipeClear_buf (s : State) : (s.pipeClear).buf = s.buf := by
  simp [State.pipeClear]
@[simp] theorem State.pipeClear_ctl (s : State) : (s.pipeClear).ctl = s.ctl := by
  simp [State.pipeClear]
@[simp] theorem State.pipeClear_lc (s : State) : (s.pipeClear).lc = s.lc := by
  simp [State.pipeClear]
@[simp] theorem State.pipeClear_resetReason (s : State) : (s.pipeClear).resetReason = s.resetReason := by
  simp [State.pipeClear]
@[simp] theorem State.pipeClear_diag (s : State) : (s.pipeClear).diag = s.diag := by
  simp [State.pipeClear]
@[simp] theorem State.pipeClear_main (s : State) : (s.pipeClear).main = s.main := by
  simp [State.pipeClear]
@[simp] theorem State.pipeClear_sie (s : State) : (s.pipeClear).sie = s.sie := by
  simp [State.pipeClear]
@[simp] theorem State.pipeClear_wireIn (s : State) : (s.pipeClear).wireIn = s.wireIn := by
  simp [State.pipeClear]
@[simp] theorem State.pipeClear_sess (s : State) : (s.pipeClear).sess = s.sess := by
  simp [State.pipeClear]
@[simp] theorem State.pipeClear_flashseq (s : State) : (s.pipeClear).flashseq = s.flashseq := by
  simp [State.pipeClear]
@[simp] theorem State.pipeClear_busTrace (s : State) : (s.pipeClear).busTrace = s.busTrace := by
  simp [State.pipeClear]
@[simp] theorem State.pipeClear_cfg (s : State) : (s.pipeClear).cfg = s.cfg := by
  simp [State.pipeClear]
@[simp] theorem State.pipeClear_port (s : State) : (s.pipeClear).port = s.port := by
  simp [State.pipeClear]
@[simp] theorem State.pipeClear_cart (s : State) : (s.pipeClear).cart = s.cart := by
  simp [State.pipeClear]
@[simp] theorem State.pipeClear_draws (s : State) : (s.pipeClear).draws = s.draws := by
  simp [State.pipeClear]
@[simp] theorem State.pipeClear_epoch (s : State) : (s.pipeClear).epoch = s.epoch := by
  simp [State.pipeClear]
@[simp] theorem State.pipeClear_ret (s : State) : (s.pipeClear).ret = s.ret := by
  simp [State.pipeClear]

/-! ### pipeSetup -/

@[simp] theorem State.pipeSetup_dev (s : State) : (s.pipeSetup).dev = s.dev := by
  simp [State.pipeSetup]
@[simp] theorem State.pipeSetup_irq (s : State) : (s.pipeSetup).irq = s.irq := by
  simp [State.pipeSetup]
@[simp] theorem State.pipeSetup_buf (s : State) : (s.pipeSetup).buf = s.buf := by
  simp [State.pipeSetup]
@[simp] theorem State.pipeSetup_ctl (s : State) : (s.pipeSetup).ctl = s.ctl := by
  simp [State.pipeSetup]
@[simp] theorem State.pipeSetup_lc (s : State) : (s.pipeSetup).lc = s.lc := by
  simp [State.pipeSetup]
@[simp] theorem State.pipeSetup_resetReason (s : State) : (s.pipeSetup).resetReason = s.resetReason := by
  simp [State.pipeSetup]
@[simp] theorem State.pipeSetup_diag (s : State) : (s.pipeSetup).diag = s.diag := by
  simp [State.pipeSetup]
@[simp] theorem State.pipeSetup_main (s : State) : (s.pipeSetup).main = s.main := by
  simp [State.pipeSetup]
@[simp] theorem State.pipeSetup_wireIn (s : State) : (s.pipeSetup).wireIn = s.wireIn := by
  simp [State.pipeSetup]
@[simp] theorem State.pipeSetup_sess (s : State) : (s.pipeSetup).sess = s.sess := by
  simp [State.pipeSetup]
@[simp] theorem State.pipeSetup_flashseq (s : State) : (s.pipeSetup).flashseq = s.flashseq := by
  simp [State.pipeSetup]
@[simp] theorem State.pipeSetup_busTrace (s : State) : (s.pipeSetup).busTrace = s.busTrace := by
  simp [State.pipeSetup]
@[simp] theorem State.pipeSetup_cfg (s : State) : (s.pipeSetup).cfg = s.cfg := by
  simp [State.pipeSetup]
@[simp] theorem State.pipeSetup_port (s : State) : (s.pipeSetup).port = s.port := by
  simp [State.pipeSetup]
@[simp] theorem State.pipeSetup_cart (s : State) : (s.pipeSetup).cart = s.cart := by
  simp [State.pipeSetup]
@[simp] theorem State.pipeSetup_draws (s : State) : (s.pipeSetup).draws = s.draws := by
  simp [State.pipeSetup]
@[simp] theorem State.pipeSetup_epoch (s : State) : (s.pipeSetup).epoch = s.epoch := by
  simp [State.pipeSetup]
@[simp] theorem State.pipeSetup_ret (s : State) : (s.pipeSetup).ret = s.ret := by
  simp [State.pipeSetup]

/-! ### pipeTeardown -/

@[simp] theorem State.pipeTeardown_dev (s : State) : (s.pipeTeardown).dev = s.dev := by
  simp [State.pipeTeardown]
@[simp] theorem State.pipeTeardown_irq (s : State) : (s.pipeTeardown).irq = s.irq := by
  simp [State.pipeTeardown]
@[simp] theorem State.pipeTeardown_buf (s : State) : (s.pipeTeardown).buf = s.buf := by
  simp [State.pipeTeardown]
@[simp] theorem State.pipeTeardown_ctl (s : State) : (s.pipeTeardown).ctl = s.ctl := by
  simp [State.pipeTeardown]
@[simp] theorem State.pipeTeardown_lc (s : State) : (s.pipeTeardown).lc = s.lc := by
  simp [State.pipeTeardown]
@[simp] theorem State.pipeTeardown_resetReason (s : State) : (s.pipeTeardown).resetReason = s.resetReason := by
  simp [State.pipeTeardown]
@[simp] theorem State.pipeTeardown_diag (s : State) : (s.pipeTeardown).diag = s.diag := by
  simp [State.pipeTeardown]
@[simp] theorem State.pipeTeardown_main (s : State) : (s.pipeTeardown).main = s.main := by
  simp [State.pipeTeardown]
@[simp] theorem State.pipeTeardown_wireIn (s : State) : (s.pipeTeardown).wireIn = s.wireIn := by
  simp [State.pipeTeardown]
@[simp] theorem State.pipeTeardown_sess (s : State) : (s.pipeTeardown).sess = s.sess := by
  simp [State.pipeTeardown]
@[simp] theorem State.pipeTeardown_flashseq (s : State) : (s.pipeTeardown).flashseq = s.flashseq := by
  simp [State.pipeTeardown]
@[simp] theorem State.pipeTeardown_busTrace (s : State) : (s.pipeTeardown).busTrace = s.busTrace := by
  simp [State.pipeTeardown]
@[simp] theorem State.pipeTeardown_cfg (s : State) : (s.pipeTeardown).cfg = s.cfg := by
  simp [State.pipeTeardown]
@[simp] theorem State.pipeTeardown_port (s : State) : (s.pipeTeardown).port = s.port := by
  simp [State.pipeTeardown]
@[simp] theorem State.pipeTeardown_cart (s : State) : (s.pipeTeardown).cart = s.cart := by
  simp [State.pipeTeardown]
@[simp] theorem State.pipeTeardown_draws (s : State) : (s.pipeTeardown).draws = s.draws := by
  simp [State.pipeTeardown]
@[simp] theorem State.pipeTeardown_epoch (s : State) : (s.pipeTeardown).epoch = s.epoch := by
  simp [State.pipeTeardown]
@[simp] theorem State.pipeTeardown_ret (s : State) : (s.pipeTeardown).ret = s.ret := by
  simp [State.pipeTeardown]

/-! ### usbResetInit -/

@[simp] theorem State.usbResetInit_buf (s : State) : (s.usbResetInit).buf = s.buf := by
  simp [State.usbResetInit]
@[simp] theorem State.usbResetInit_resetReason (s : State) : (s.usbResetInit).resetReason = s.resetReason := by
  simp [State.usbResetInit]
@[simp] theorem State.usbResetInit_diag (s : State) : (s.usbResetInit).diag = s.diag := by
  simp [State.usbResetInit]
@[simp] theorem State.usbResetInit_main (s : State) : (s.usbResetInit).main = s.main := by
  simp [State.usbResetInit]
@[simp] theorem State.usbResetInit_sie (s : State) : (s.usbResetInit).sie = s.sie := by
  simp [State.usbResetInit]
@[simp] theorem State.usbResetInit_wireIn (s : State) : (s.usbResetInit).wireIn = s.wireIn := by
  simp [State.usbResetInit]
@[simp] theorem State.usbResetInit_flashseq (s : State) : (s.usbResetInit).flashseq = s.flashseq := by
  simp [State.usbResetInit]
@[simp] theorem State.usbResetInit_busTrace (s : State) : (s.usbResetInit).busTrace = s.busTrace := by
  simp [State.usbResetInit]
@[simp] theorem State.usbResetInit_cfg (s : State) : (s.usbResetInit).cfg = s.cfg := by
  simp [State.usbResetInit]
@[simp] theorem State.usbResetInit_port (s : State) : (s.usbResetInit).port = s.port := by
  simp [State.usbResetInit]
@[simp] theorem State.usbResetInit_cart (s : State) : (s.usbResetInit).cart = s.cart := by
  simp [State.usbResetInit]
@[simp] theorem State.usbResetInit_epoch (s : State) : (s.usbResetInit).epoch = s.epoch := by
  simp [State.usbResetInit]
@[simp] theorem State.usbResetInit_ret (s : State) : (s.usbResetInit).ret = s.ret := by
  simp [State.usbResetInit]

/-! ### traceBus -/

@[simp] theorem State.traceBus_dev (s : State) (op : BusOp) : (s.traceBus op).dev = s.dev := rfl
@[simp] theorem State.traceBus_irq (s : State) (op : BusOp) : (s.traceBus op).irq = s.irq := rfl
@[simp] theorem State.traceBus_bd (s : State) (op : BusOp) : (s.traceBus op).bd = s.bd := rfl
@[simp] theorem State.traceBus_buf (s : State) (op : BusOp) : (s.traceBus op).buf = s.buf := rfl
@[simp] theorem State.traceBus_ctl (s : State) (op : BusOp) : (s.traceBus op).ctl = s.ctl := rfl
@[simp] theorem State.traceBus_pipeArmed (s : State) (op : BusOp) : (s.traceBus op).pipeArmed = s.pipeArmed := rfl
@[simp] theorem State.traceBus_rx (s : State) (op : BusOp) : (s.traceBus op).rx = s.rx := rfl
@[simp] theorem State.traceBus_tx (s : State) (op : BusOp) : (s.traceBus op).tx = s.tx := rfl
@[simp] theorem State.traceBus_lc (s : State) (op : BusOp) : (s.traceBus op).lc = s.lc := rfl
@[simp] theorem State.traceBus_resetReason (s : State) (op : BusOp) :
    (s.traceBus op).resetReason = s.resetReason := rfl
@[simp] theorem State.traceBus_diag (s : State) (op : BusOp) : (s.traceBus op).diag = s.diag := rfl
@[simp] theorem State.traceBus_main (s : State) (op : BusOp) : (s.traceBus op).main = s.main := rfl
@[simp] theorem State.traceBus_sie (s : State) (op : BusOp) : (s.traceBus op).sie = s.sie := rfl
@[simp] theorem State.traceBus_wireIn (s : State) (op : BusOp) : (s.traceBus op).wireIn = s.wireIn := rfl
@[simp] theorem State.traceBus_sess (s : State) (op : BusOp) : (s.traceBus op).sess = s.sess := rfl
@[simp] theorem State.traceBus_flashseq (s : State) (op : BusOp) : (s.traceBus op).flashseq = s.flashseq := rfl
@[simp] theorem State.traceBus_cfg (s : State) (op : BusOp) : (s.traceBus op).cfg = s.cfg := rfl
@[simp] theorem State.traceBus_port (s : State) (op : BusOp) : (s.traceBus op).port = s.port := rfl
@[simp] theorem State.traceBus_cart (s : State) (op : BusOp) : (s.traceBus op).cart = s.cart := rfl
@[simp] theorem State.traceBus_draws (s : State) (op : BusOp) : (s.traceBus op).draws = s.draws := rfl
@[simp] theorem State.traceBus_epoch (s : State) (op : BusOp) : (s.traceBus op).epoch = s.epoch := rfl
@[simp] theorem State.traceBus_ret (s : State) (op : BusOp) : (s.traceBus op).ret = s.ret := rfl

/-! ### oracleNext -/

@[simp] theorem State.oracleNext_dev (s : State) : (s.oracleNext).dev = s.dev := by
  unfold State.oracleNext; split <;> rfl
@[simp] theorem State.oracleNext_irq (s : State) : (s.oracleNext).irq = s.irq := by
  unfold State.oracleNext; split <;> rfl
@[simp] theorem State.oracleNext_bd (s : State) : (s.oracleNext).bd = s.bd := by
  unfold State.oracleNext; split <;> rfl
@[simp] theorem State.oracleNext_buf (s : State) : (s.oracleNext).buf = s.buf := by
  unfold State.oracleNext; split <;> rfl
@[simp] theorem State.oracleNext_ctl (s : State) : (s.oracleNext).ctl = s.ctl := by
  unfold State.oracleNext; split <;> rfl
@[simp] theorem State.oracleNext_pipeArmed (s : State) : (s.oracleNext).pipeArmed = s.pipeArmed := by
  unfold State.oracleNext; split <;> rfl
@[simp] theorem State.oracleNext_rx (s : State) : (s.oracleNext).rx = s.rx := by
  unfold State.oracleNext; split <;> rfl
@[simp] theorem State.oracleNext_tx (s : State) : (s.oracleNext).tx = s.tx := by
  unfold State.oracleNext; split <;> rfl
@[simp] theorem State.oracleNext_lc (s : State) : (s.oracleNext).lc = s.lc := by
  unfold State.oracleNext; split <;> rfl
@[simp] theorem State.oracleNext_resetReason (s : State) : (s.oracleNext).resetReason = s.resetReason := by
  unfold State.oracleNext; split <;> rfl
@[simp] theorem State.oracleNext_diag (s : State) : (s.oracleNext).diag = s.diag := by
  unfold State.oracleNext; split <;> rfl
@[simp] theorem State.oracleNext_main (s : State) : (s.oracleNext).main = s.main := by
  unfold State.oracleNext; split <;> rfl
@[simp] theorem State.oracleNext_sie (s : State) : (s.oracleNext).sie = s.sie := by
  unfold State.oracleNext; split <;> rfl
@[simp] theorem State.oracleNext_wireIn (s : State) : (s.oracleNext).wireIn = s.wireIn := by
  unfold State.oracleNext; split <;> rfl
@[simp] theorem State.oracleNext_sess (s : State) : (s.oracleNext).sess = s.sess := by
  unfold State.oracleNext; split <;> rfl
@[simp] theorem State.oracleNext_flashseq (s : State) : (s.oracleNext).flashseq = s.flashseq := by
  unfold State.oracleNext; split <;> rfl
@[simp] theorem State.oracleNext_busTrace (s : State) : (s.oracleNext).busTrace = s.busTrace := by
  unfold State.oracleNext; split <;> rfl
@[simp] theorem State.oracleNext_cfg (s : State) : (s.oracleNext).cfg = s.cfg := by
  unfold State.oracleNext; split <;> rfl
@[simp] theorem State.oracleNext_port (s : State) : (s.oracleNext).port = s.port := by
  unfold State.oracleNext; split <;> rfl
@[simp] theorem State.oracleNext_epoch (s : State) : (s.oracleNext).epoch = s.epoch := by
  unfold State.oracleNext; split <;> rfl
@[simp] theorem State.oracleNext_ret (s : State) : (s.oracleNext).ret = s.ret := by
  unfold State.oracleNext; split <;> rfl

/-! ### busWrite -/

@[simp] theorem State.busWrite_dev (s : State) (a : Word) (b : Byte) (cs alt : Bool) :
    (s.busWrite a b cs alt).dev = s.dev := rfl
@[simp] theorem State.busWrite_irq (s : State) (a : Word) (b : Byte) (cs alt : Bool) :
    (s.busWrite a b cs alt).irq = s.irq := rfl
@[simp] theorem State.busWrite_bd (s : State) (a : Word) (b : Byte) (cs alt : Bool) :
    (s.busWrite a b cs alt).bd = s.bd := rfl
@[simp] theorem State.busWrite_buf (s : State) (a : Word) (b : Byte) (cs alt : Bool) :
    (s.busWrite a b cs alt).buf = s.buf := rfl
@[simp] theorem State.busWrite_ctl (s : State) (a : Word) (b : Byte) (cs alt : Bool) :
    (s.busWrite a b cs alt).ctl = s.ctl := rfl
@[simp] theorem State.busWrite_pipeArmed (s : State) (a : Word) (b : Byte) (cs alt : Bool) :
    (s.busWrite a b cs alt).pipeArmed = s.pipeArmed := rfl
@[simp] theorem State.busWrite_rx (s : State) (a : Word) (b : Byte) (cs alt : Bool) :
    (s.busWrite a b cs alt).rx = s.rx := rfl
@[simp] theorem State.busWrite_tx (s : State) (a : Word) (b : Byte) (cs alt : Bool) :
    (s.busWrite a b cs alt).tx = s.tx := rfl
@[simp] theorem State.busWrite_lc (s : State) (a : Word) (b : Byte) (cs alt : Bool) :
    (s.busWrite a b cs alt).lc = s.lc := rfl
@[simp] theorem State.busWrite_resetReason (s : State) (a : Word) (b : Byte) (cs alt : Bool) :
    (s.busWrite a b cs alt).resetReason = s.resetReason := rfl
@[simp] theorem State.busWrite_diag (s : State) (a : Word) (b : Byte) (cs alt : Bool) :
    (s.busWrite a b cs alt).diag = s.diag := rfl
@[simp] theorem State.busWrite_main (s : State) (a : Word) (b : Byte) (cs alt : Bool) :
    (s.busWrite a b cs alt).main = s.main := rfl
@[simp] theorem State.busWrite_sie (s : State) (a : Word) (b : Byte) (cs alt : Bool) :
    (s.busWrite a b cs alt).sie = s.sie := rfl
@[simp] theorem State.busWrite_wireIn (s : State) (a : Word) (b : Byte) (cs alt : Bool) :
    (s.busWrite a b cs alt).wireIn = s.wireIn := rfl
@[simp] theorem State.busWrite_sess (s : State) (a : Word) (b : Byte) (cs alt : Bool) :
    (s.busWrite a b cs alt).sess = s.sess := rfl
@[simp] theorem State.busWrite_flashseq (s : State) (a : Word) (b : Byte) (cs alt : Bool) :
    (s.busWrite a b cs alt).flashseq = s.flashseq := rfl
@[simp] theorem State.busWrite_cfg (s : State) (a : Word) (b : Byte) (cs alt : Bool) :
    (s.busWrite a b cs alt).cfg = s.cfg := rfl
@[simp] theorem State.busWrite_port (s : State) (a : Word) (b : Byte) (cs alt : Bool) :
    (s.busWrite a b cs alt).port = s.port := rfl
@[simp] theorem State.busWrite_cart (s : State) (a : Word) (b : Byte) (cs alt : Bool) :
    (s.busWrite a b cs alt).cart = s.cart := rfl
@[simp] theorem State.busWrite_draws (s : State) (a : Word) (b : Byte) (cs alt : Bool) :
    (s.busWrite a b cs alt).draws = s.draws := rfl
@[simp] theorem State.busWrite_epoch (s : State) (a : Word) (b : Byte) (cs alt : Bool) :
    (s.busWrite a b cs alt).epoch = s.epoch := rfl
@[simp] theorem State.busWrite_ret (s : State) (a : Word) (b : Byte) (cs alt : Bool) :
    (s.busWrite a b cs alt).ret = s.ret := rfl

/-! ### busMode -/

@[simp] theorem State.busMode_dev (s : State) (m : Byte) : (s.busMode m).dev = s.dev := rfl
@[simp] theorem State.busMode_irq (s : State) (m : Byte) : (s.busMode m).irq = s.irq := rfl
@[simp] theorem State.busMode_bd (s : State) (m : Byte) : (s.busMode m).bd = s.bd := rfl
@[simp] theorem State.busMode_buf (s : State) (m : Byte) : (s.busMode m).buf = s.buf := rfl
@[simp] theorem State.busMode_ctl (s : State) (m : Byte) : (s.busMode m).ctl = s.ctl := rfl
@[simp] theorem State.busMode_pipeArmed (s : State) (m : Byte) : (s.busMode m).pipeArmed = s.pipeArmed := rfl
@[simp] theorem State.busMode_rx (s : State) (m : Byte) : (s.busMode m).rx = s.rx := rfl
@[simp] theorem State.busMode_tx (s : State) (m : Byte) : (s.busMode m).tx = s.tx := rfl
@[simp] theorem State.busMode_lc (s : State) (m : Byte) : (s.busMode m).lc = s.lc := rfl
@[simp] theorem State.busMode_resetReason (s : State) (m : Byte) : (s.busMode m).resetReason = s.resetReason := rfl
@[simp] theorem State.busMode_diag (s : State) (m : Byte) : (s.busMode m).diag = s.diag := rfl
@[simp] theorem State.busMode_main (s : State) (m : Byte) : (s.busMode m).main = s.main := rfl
@[simp] theorem State.busMode_sie (s : State) (m : Byte) : (s.busMode m).sie = s.sie := rfl
@[simp] theorem State.busMode_wireIn (s : State) (m : Byte) : (s.busMode m).wireIn = s.wireIn := rfl
@[simp] theorem State.busMode_sess (s : State) (m : Byte) : (s.busMode m).sess = s.sess := rfl
@[simp] theorem State.busMode_flashseq (s : State) (m : Byte) : (s.busMode m).flashseq = s.flashseq := rfl
@[simp] theorem State.busMode_cfg (s : State) (m : Byte) : (s.busMode m).cfg = s.cfg := rfl
@[simp] theorem State.busMode_port (s : State) (m : Byte) : (s.busMode m).port = s.port := rfl
@[simp] theorem State.busMode_cart (s : State) (m : Byte) : (s.busMode m).cart = s.cart := rfl
@[simp] theorem State.busMode_draws (s : State) (m : Byte) : (s.busMode m).draws = s.draws := rfl
@[simp] theorem State.busMode_epoch (s : State) (m : Byte) : (s.busMode m).epoch = s.epoch := rfl
@[simp] theorem State.busMode_ret (s : State) (m : Byte) : (s.busMode m).ret = s.ret := rfl

/-! ### rxRearm -/

@[simp] theorem State.rxRearm_dev (s : State) (h : Bit) : (s.rxRearm h).dev = s.dev := by
  simp [State.rxRearm]
@[simp] theorem State.rxRearm_irq (s : State) (h : Bit) : (s.rxRearm h).irq = s.irq := by
  simp [State.rxRearm]
@[simp] theorem State.rxRearm_buf (s : State) (h : Bit) : (s.rxRearm h).buf = s.buf := by
  simp [State.rxRearm]
@[simp] theorem State.rxRearm_ctl (s : State) (h : Bit) : (s.rxRearm h).ctl = s.ctl := by
  simp [State.rxRearm]
@[simp] theorem State.rxRearm_pipeArmed (s : State) (h : Bit) : (s.rxRearm h).pipeArmed = s.pipeArmed := by
  simp [State.rxRearm]
@[simp] theorem State.rxRearm_tx (s : State) (h : Bit) : (s.rxRearm h).tx = s.tx := by
  simp [State.rxRearm]
@[simp] theorem State.rxRearm_lc (s : State) (h : Bit) : (s.rxRearm h).lc = s.lc := by
  simp [State.rxRearm]
@[simp] theorem State.rxRearm_resetReason (s : State) (h : Bit) : (s.rxRearm h).resetReason = s.resetReason := by
  simp [State.rxRearm]
@[simp] theorem State.rxRearm_diag (s : State) (h : Bit) : (s.rxRearm h).diag = s.diag := by
  simp [State.rxRearm]
@[simp] theorem State.rxRearm_main (s : State) (h : Bit) : (s.rxRearm h).main = s.main := by
  simp [State.rxRearm]
@[simp] theorem State.rxRearm_sie (s : State) (h : Bit) : (s.rxRearm h).sie = s.sie := by
  simp [State.rxRearm]
@[simp] theorem State.rxRearm_wireIn (s : State) (h : Bit) : (s.rxRearm h).wireIn = s.wireIn := by
  simp [State.rxRearm]
@[simp] theorem State.rxRearm_sess (s : State) (h : Bit) : (s.rxRearm h).sess = s.sess := by
  simp [State.rxRearm]
@[simp] theorem State.rxRearm_flashseq (s : State) (h : Bit) : (s.rxRearm h).flashseq = s.flashseq := by
  simp [State.rxRearm]
@[simp] theorem State.rxRearm_busTrace (s : State) (h : Bit) : (s.rxRearm h).busTrace = s.busTrace := by
  simp [State.rxRearm]
@[simp] theorem State.rxRearm_cfg (s : State) (h : Bit) : (s.rxRearm h).cfg = s.cfg := by
  simp [State.rxRearm]
@[simp] theorem State.rxRearm_port (s : State) (h : Bit) : (s.rxRearm h).port = s.port := by
  simp [State.rxRearm]
@[simp] theorem State.rxRearm_cart (s : State) (h : Bit) : (s.rxRearm h).cart = s.cart := by
  simp [State.rxRearm]
@[simp] theorem State.rxRearm_draws (s : State) (h : Bit) : (s.rxRearm h).draws = s.draws := by
  simp [State.rxRearm]
@[simp] theorem State.rxRearm_epoch (s : State) (h : Bit) : (s.rxRearm h).epoch = s.epoch := by
  simp [State.rxRearm]
@[simp] theorem State.rxRearm_ret (s : State) (h : Bit) : (s.rxRearm h).ret = s.ret := by
  simp [State.rxRearm]

/-! ### rxTryExpose -/

@[simp] theorem State.rxTryExpose_dev (s : State) : (s.rxTryExpose).dev = s.dev := by
  unfold State.rxTryExpose; split <;> rfl
@[simp] theorem State.rxTryExpose_irq (s : State) : (s.rxTryExpose).irq = s.irq := by
  unfold State.rxTryExpose; split <;> rfl
@[simp] theorem State.rxTryExpose_bd (s : State) : (s.rxTryExpose).bd = s.bd := by
  unfold State.rxTryExpose; split <;> rfl
@[simp] theorem State.rxTryExpose_buf (s : State) : (s.rxTryExpose).buf = s.buf := by
  unfold State.rxTryExpose; split <;> rfl
@[simp] theorem State.rxTryExpose_ctl (s : State) : (s.rxTryExpose).ctl = s.ctl := by
  unfold State.rxTryExpose; split <;> rfl
@[simp] theorem State.rxTryExpose_pipeArmed (s : State) : (s.rxTryExpose).pipeArmed = s.pipeArmed := by
  unfold State.rxTryExpose; split <;> rfl
@[simp] theorem State.rxTryExpose_tx (s : State) : (s.rxTryExpose).tx = s.tx := by
  unfold State.rxTryExpose; split <;> rfl
@[simp] theorem State.rxTryExpose_lc (s : State) : (s.rxTryExpose).lc = s.lc := by
  unfold State.rxTryExpose; split <;> rfl
@[simp] theorem State.rxTryExpose_resetReason (s : State) : (s.rxTryExpose).resetReason = s.resetReason := by
  unfold State.rxTryExpose; split <;> rfl
@[simp] theorem State.rxTryExpose_diag (s : State) : (s.rxTryExpose).diag = s.diag := by
  unfold State.rxTryExpose; split <;> rfl
@[simp] theorem State.rxTryExpose_main (s : State) : (s.rxTryExpose).main = s.main := by
  unfold State.rxTryExpose; split <;> rfl
@[simp] theorem State.rxTryExpose_sie (s : State) : (s.rxTryExpose).sie = s.sie := by
  unfold State.rxTryExpose; split <;> rfl
@[simp] theorem State.rxTryExpose_wireIn (s : State) : (s.rxTryExpose).wireIn = s.wireIn := by
  unfold State.rxTryExpose; split <;> rfl
@[simp] theorem State.rxTryExpose_sess (s : State) : (s.rxTryExpose).sess = s.sess := by
  unfold State.rxTryExpose; split <;> rfl
@[simp] theorem State.rxTryExpose_flashseq (s : State) : (s.rxTryExpose).flashseq = s.flashseq := by
  unfold State.rxTryExpose; split <;> rfl
@[simp] theorem State.rxTryExpose_busTrace (s : State) : (s.rxTryExpose).busTrace = s.busTrace := by
  unfold State.rxTryExpose; split <;> rfl
@[simp] theorem State.rxTryExpose_cfg (s : State) : (s.rxTryExpose).cfg = s.cfg := by
  unfold State.rxTryExpose; split <;> rfl
@[simp] theorem State.rxTryExpose_port (s : State) : (s.rxTryExpose).port = s.port := by
  unfold State.rxTryExpose; split <;> rfl
@[simp] theorem State.rxTryExpose_cart (s : State) : (s.rxTryExpose).cart = s.cart := by
  unfold State.rxTryExpose; split <;> rfl
@[simp] theorem State.rxTryExpose_draws (s : State) : (s.rxTryExpose).draws = s.draws := by
  unfold State.rxTryExpose; split <;> rfl
@[simp] theorem State.rxTryExpose_epoch (s : State) : (s.rxTryExpose).epoch = s.epoch := by
  unfold State.rxTryExpose; split <;> rfl
@[simp] theorem State.rxTryExpose_ret (s : State) : (s.rxTryExpose).ret = s.ret := by
  unfold State.rxTryExpose; split <;> rfl

/-! ### txTryAcquire -/

@[simp] theorem State.txTryAcquire_dev (s : State) : (s.txTryAcquire).dev = s.dev := by
  unfold State.txTryAcquire; split
  · rfl
  · split <;> rfl
@[simp] theorem State.txTryAcquire_irq (s : State) : (s.txTryAcquire).irq = s.irq := by
  unfold State.txTryAcquire; split
  · rfl
  · split <;> rfl
@[simp] theorem State.txTryAcquire_bd (s : State) : (s.txTryAcquire).bd = s.bd := by
  unfold State.txTryAcquire; split
  · rfl
  · split <;> rfl
@[simp] theorem State.txTryAcquire_buf (s : State) : (s.txTryAcquire).buf = s.buf := by
  unfold State.txTryAcquire; split
  · rfl
  · split <;> rfl
@[simp] theorem State.txTryAcquire_ctl (s : State) : (s.txTryAcquire).ctl = s.ctl := by
  unfold State.txTryAcquire; split
  · rfl
  · split <;> rfl
@[simp] theorem State.txTryAcquire_pipeArmed (s : State) : (s.txTryAcquire).pipeArmed = s.pipeArmed := by
  unfold State.txTryAcquire; split
  · rfl
  · split <;> rfl
@[simp] theorem State.txTryAcquire_rx (s : State) : (s.txTryAcquire).rx = s.rx := by
  unfold State.txTryAcquire; split
  · rfl
  · split <;> rfl
@[simp] theorem State.txTryAcquire_lc (s : State) : (s.txTryAcquire).lc = s.lc := by
  unfold State.txTryAcquire; split
  · rfl
  · split <;> rfl
@[simp] theorem State.txTryAcquire_resetReason (s : State) : (s.txTryAcquire).resetReason = s.resetReason := by
  unfold State.txTryAcquire; split
  · rfl
  · split <;> rfl
@[simp] theorem State.txTryAcquire_diag (s : State) : (s.txTryAcquire).diag = s.diag := by
  unfold State.txTryAcquire; split
  · rfl
  · split <;> rfl
@[simp] theorem State.txTryAcquire_main (s : State) : (s.txTryAcquire).main = s.main := by
  unfold State.txTryAcquire; split
  · rfl
  · split <;> rfl
@[simp] theorem State.txTryAcquire_sie (s : State) : (s.txTryAcquire).sie = s.sie := by
  unfold State.txTryAcquire; split
  · rfl
  · split <;> rfl
@[simp] theorem State.txTryAcquire_wireIn (s : State) : (s.txTryAcquire).wireIn = s.wireIn := by
  unfold State.txTryAcquire; split
  · rfl
  · split <;> rfl
@[simp] theorem State.txTryAcquire_sess (s : State) : (s.txTryAcquire).sess = s.sess := by
  unfold State.txTryAcquire; split
  · rfl
  · split <;> rfl
@[simp] theorem State.txTryAcquire_flashseq (s : State) : (s.txTryAcquire).flashseq = s.flashseq := by
  unfold State.txTryAcquire; split
  · rfl
  · split <;> rfl
@[simp] theorem State.txTryAcquire_busTrace (s : State) : (s.txTryAcquire).busTrace = s.busTrace := by
  unfold State.txTryAcquire; split
  · rfl
  · split <;> rfl
@[simp] theorem State.txTryAcquire_cfg (s : State) : (s.txTryAcquire).cfg = s.cfg := by
  unfold State.txTryAcquire; split
  · rfl
  · split <;> rfl
@[simp] theorem State.txTryAcquire_port (s : State) : (s.txTryAcquire).port = s.port := by
  unfold State.txTryAcquire; split
  · rfl
  · split <;> rfl
@[simp] theorem State.txTryAcquire_cart (s : State) : (s.txTryAcquire).cart = s.cart := by
  unfold State.txTryAcquire; split
  · rfl
  · split <;> rfl
@[simp] theorem State.txTryAcquire_draws (s : State) : (s.txTryAcquire).draws = s.draws := by
  unfold State.txTryAcquire; split
  · rfl
  · split <;> rfl
@[simp] theorem State.txTryAcquire_epoch (s : State) : (s.txTryAcquire).epoch = s.epoch := by
  unfold State.txTryAcquire; split
  · rfl
  · split <;> rfl
@[simp] theorem State.txTryAcquire_ret (s : State) : (s.txTryAcquire).ret = s.ret := by
  unfold State.txTryAcquire; split
  · rfl
  · split <;> rfl

/-! ### txArm -/

@[simp] theorem State.txArm_dev (s : State) (h : Bit) (n : Nat) : (s.txArm h n).dev = s.dev := by
  simp [State.txArm]
@[simp] theorem State.txArm_irq (s : State) (h : Bit) (n : Nat) : (s.txArm h n).irq = s.irq := by
  simp [State.txArm]
@[simp] theorem State.txArm_buf (s : State) (h : Bit) (n : Nat) : (s.txArm h n).buf = s.buf := by
  simp [State.txArm]
@[simp] theorem State.txArm_ctl (s : State) (h : Bit) (n : Nat) : (s.txArm h n).ctl = s.ctl := by
  simp [State.txArm]
@[simp] theorem State.txArm_pipeArmed (s : State) (h : Bit) (n : Nat) :
    (s.txArm h n).pipeArmed = s.pipeArmed := by
  simp [State.txArm]
@[simp] theorem State.txArm_rx (s : State) (h : Bit) (n : Nat) : (s.txArm h n).rx = s.rx := by
  simp [State.txArm]
@[simp] theorem State.txArm_lc (s : State) (h : Bit) (n : Nat) : (s.txArm h n).lc = s.lc := by
  simp [State.txArm]
@[simp] theorem State.txArm_resetReason (s : State) (h : Bit) (n : Nat) :
    (s.txArm h n).resetReason = s.resetReason := by
  simp [State.txArm]
@[simp] theorem State.txArm_diag (s : State) (h : Bit) (n : Nat) : (s.txArm h n).diag = s.diag := by
  simp [State.txArm]
@[simp] theorem State.txArm_main (s : State) (h : Bit) (n : Nat) : (s.txArm h n).main = s.main := by
  simp [State.txArm]
@[simp] theorem State.txArm_sie (s : State) (h : Bit) (n : Nat) : (s.txArm h n).sie = s.sie := by
  simp [State.txArm]
@[simp] theorem State.txArm_wireIn (s : State) (h : Bit) (n : Nat) : (s.txArm h n).wireIn = s.wireIn := by
  simp [State.txArm]
@[simp] theorem State.txArm_sess (s : State) (h : Bit) (n : Nat) : (s.txArm h n).sess = s.sess := by
  simp [State.txArm]
@[simp] theorem State.txArm_flashseq (s : State) (h : Bit) (n : Nat) : (s.txArm h n).flashseq = s.flashseq := by
  simp [State.txArm]
@[simp] theorem State.txArm_busTrace (s : State) (h : Bit) (n : Nat) : (s.txArm h n).busTrace = s.busTrace := by
  simp [State.txArm]
@[simp] theorem State.txArm_cfg (s : State) (h : Bit) (n : Nat) : (s.txArm h n).cfg = s.cfg := by
  simp [State.txArm]
@[simp] theorem State.txArm_port (s : State) (h : Bit) (n : Nat) : (s.txArm h n).port = s.port := by
  simp [State.txArm]
@[simp] theorem State.txArm_cart (s : State) (h : Bit) (n : Nat) : (s.txArm h n).cart = s.cart := by
  simp [State.txArm]
@[simp] theorem State.txArm_draws (s : State) (h : Bit) (n : Nat) : (s.txArm h n).draws = s.draws := by
  simp [State.txArm]
@[simp] theorem State.txArm_epoch (s : State) (h : Bit) (n : Nat) : (s.txArm h n).epoch = s.epoch := by
  simp [State.txArm]
@[simp] theorem State.txArm_ret (s : State) (h : Bit) (n : Nat) : (s.txArm h n).ret = s.ret := by
  simp [State.txArm]

/-! ### stallEp0 -/

@[simp] theorem State.stallEp0_dev (s : State) : (s.stallEp0).dev = s.dev := by
  simp [State.stallEp0]
@[simp] theorem State.stallEp0_irq (s : State) : (s.stallEp0).irq = s.irq := by
  simp [State.stallEp0]
@[simp] theorem State.stallEp0_buf (s : State) : (s.stallEp0).buf = s.buf := by
  simp [State.stallEp0]
@[simp] theorem State.stallEp0_pipeArmed (s : State) : (s.stallEp0).pipeArmed = s.pipeArmed := by
  simp [State.stallEp0]
@[simp] theorem State.stallEp0_rx (s : State) : (s.stallEp0).rx = s.rx := by
  simp [State.stallEp0]
@[simp] theorem State.stallEp0_tx (s : State) : (s.stallEp0).tx = s.tx := by
  simp [State.stallEp0]
@[simp] theorem State.stallEp0_lc (s : State) : (s.stallEp0).lc = s.lc := by
  simp [State.stallEp0]
@[simp] theorem State.stallEp0_resetReason (s : State) : (s.stallEp0).resetReason = s.resetReason := by
  simp [State.stallEp0]
@[simp] theorem State.stallEp0_diag (s : State) : (s.stallEp0).diag = s.diag := by
  simp [State.stallEp0]
@[simp] theorem State.stallEp0_main (s : State) : (s.stallEp0).main = s.main := by
  simp [State.stallEp0]
@[simp] theorem State.stallEp0_sie (s : State) : (s.stallEp0).sie = s.sie := by
  simp [State.stallEp0]
@[simp] theorem State.stallEp0_wireIn (s : State) : (s.stallEp0).wireIn = s.wireIn := by
  simp [State.stallEp0]
@[simp] theorem State.stallEp0_sess (s : State) : (s.stallEp0).sess = s.sess := by
  simp [State.stallEp0]
@[simp] theorem State.stallEp0_flashseq (s : State) : (s.stallEp0).flashseq = s.flashseq := by
  simp [State.stallEp0]
@[simp] theorem State.stallEp0_busTrace (s : State) : (s.stallEp0).busTrace = s.busTrace := by
  simp [State.stallEp0]
@[simp] theorem State.stallEp0_cfg (s : State) : (s.stallEp0).cfg = s.cfg := by
  simp [State.stallEp0]
@[simp] theorem State.stallEp0_port (s : State) : (s.stallEp0).port = s.port := by
  simp [State.stallEp0]
@[simp] theorem State.stallEp0_cart (s : State) : (s.stallEp0).cart = s.cart := by
  simp [State.stallEp0]
@[simp] theorem State.stallEp0_draws (s : State) : (s.stallEp0).draws = s.draws := by
  simp [State.stallEp0]
@[simp] theorem State.stallEp0_epoch (s : State) : (s.stallEp0).epoch = s.epoch := by
  simp [State.stallEp0]
@[simp] theorem State.stallEp0_ret (s : State) : (s.stallEp0).ret = s.ret := by
  simp [State.stallEp0]

/-! ### statusIn -/

@[simp] theorem State.statusIn_dev (s : State) : (s.statusIn).dev = s.dev := by
  simp [State.statusIn]
@[simp] theorem State.statusIn_irq (s : State) : (s.statusIn).irq = s.irq := by
  simp [State.statusIn]
@[simp] theorem State.statusIn_buf (s : State) : (s.statusIn).buf = s.buf := by
  simp [State.statusIn]
@[simp] theorem State.statusIn_ctl (s : State) : (s.statusIn).ctl = s.ctl := by
  simp [State.statusIn]
@[simp] theorem State.statusIn_pipeArmed (s : State) : (s.statusIn).pipeArmed = s.pipeArmed := by
  simp [State.statusIn]
@[simp] theorem State.statusIn_rx (s : State) : (s.statusIn).rx = s.rx := by
  simp [State.statusIn]
@[simp] theorem State.statusIn_tx (s : State) : (s.statusIn).tx = s.tx := by
  simp [State.statusIn]
@[simp] theorem State.statusIn_lc (s : State) : (s.statusIn).lc = s.lc := by
  simp [State.statusIn]
@[simp] theorem State.statusIn_resetReason (s : State) : (s.statusIn).resetReason = s.resetReason := by
  simp [State.statusIn]
@[simp] theorem State.statusIn_diag (s : State) : (s.statusIn).diag = s.diag := by
  simp [State.statusIn]
@[simp] theorem State.statusIn_main (s : State) : (s.statusIn).main = s.main := by
  simp [State.statusIn]
@[simp] theorem State.statusIn_sie (s : State) : (s.statusIn).sie = s.sie := by
  simp [State.statusIn]
@[simp] theorem State.statusIn_wireIn (s : State) : (s.statusIn).wireIn = s.wireIn := by
  simp [State.statusIn]
@[simp] theorem State.statusIn_sess (s : State) : (s.statusIn).sess = s.sess := by
  simp [State.statusIn]
@[simp] theorem State.statusIn_flashseq (s : State) : (s.statusIn).flashseq = s.flashseq := by
  simp [State.statusIn]
@[simp] theorem State.statusIn_busTrace (s : State) : (s.statusIn).busTrace = s.busTrace := by
  simp [State.statusIn]
@[simp] theorem State.statusIn_cfg (s : State) : (s.statusIn).cfg = s.cfg := by
  simp [State.statusIn]
@[simp] theorem State.statusIn_port (s : State) : (s.statusIn).port = s.port := by
  simp [State.statusIn]
@[simp] theorem State.statusIn_cart (s : State) : (s.statusIn).cart = s.cart := by
  simp [State.statusIn]
@[simp] theorem State.statusIn_draws (s : State) : (s.statusIn).draws = s.draws := by
  simp [State.statusIn]
@[simp] theorem State.statusIn_epoch (s : State) : (s.statusIn).epoch = s.epoch := by
  simp [State.statusIn]
@[simp] theorem State.statusIn_ret (s : State) : (s.statusIn).ret = s.ret := by
  simp [State.statusIn]

/-! ### sendInChunk -/

@[simp] theorem State.sendInChunk_dev (s : State) : (s.sendInChunk).dev = s.dev := by
  simp [State.sendInChunk]
@[simp] theorem State.sendInChunk_irq (s : State) : (s.sendInChunk).irq = s.irq := by
  simp [State.sendInChunk]
@[simp] theorem State.sendInChunk_pipeArmed (s : State) : (s.sendInChunk).pipeArmed = s.pipeArmed := by
  simp [State.sendInChunk]
@[simp] theorem State.sendInChunk_rx (s : State) : (s.sendInChunk).rx = s.rx := by
  simp [State.sendInChunk]
@[simp] theorem State.sendInChunk_tx (s : State) : (s.sendInChunk).tx = s.tx := by
  simp [State.sendInChunk]
@[simp] theorem State.sendInChunk_lc (s : State) : (s.sendInChunk).lc = s.lc := by
  simp [State.sendInChunk]
@[simp] theorem State.sendInChunk_resetReason (s : State) : (s.sendInChunk).resetReason = s.resetReason := by
  simp [State.sendInChunk]
@[simp] theorem State.sendInChunk_diag (s : State) : (s.sendInChunk).diag = s.diag := by
  simp [State.sendInChunk]
@[simp] theorem State.sendInChunk_main (s : State) : (s.sendInChunk).main = s.main := by
  simp [State.sendInChunk]
@[simp] theorem State.sendInChunk_sie (s : State) : (s.sendInChunk).sie = s.sie := by
  simp [State.sendInChunk]
@[simp] theorem State.sendInChunk_wireIn (s : State) : (s.sendInChunk).wireIn = s.wireIn := by
  simp [State.sendInChunk]
@[simp] theorem State.sendInChunk_sess (s : State) : (s.sendInChunk).sess = s.sess := by
  simp [State.sendInChunk]
@[simp] theorem State.sendInChunk_flashseq (s : State) : (s.sendInChunk).flashseq = s.flashseq := by
  simp [State.sendInChunk]
@[simp] theorem State.sendInChunk_busTrace (s : State) : (s.sendInChunk).busTrace = s.busTrace := by
  simp [State.sendInChunk]
@[simp] theorem State.sendInChunk_cfg (s : State) : (s.sendInChunk).cfg = s.cfg := by
  simp [State.sendInChunk]
@[simp] theorem State.sendInChunk_port (s : State) : (s.sendInChunk).port = s.port := by
  simp [State.sendInChunk]
@[simp] theorem State.sendInChunk_cart (s : State) : (s.sendInChunk).cart = s.cart := by
  simp [State.sendInChunk]
@[simp] theorem State.sendInChunk_draws (s : State) : (s.sendInChunk).draws = s.draws := by
  simp [State.sendInChunk]
@[simp] theorem State.sendInChunk_epoch (s : State) : (s.sendInChunk).epoch = s.epoch := by
  simp [State.sendInChunk]
@[simp] theorem State.sendInChunk_ret (s : State) : (s.sendInChunk).ret = s.ret := by
  simp [State.sendInChunk]

/-! ### startIn -/

@[simp] theorem State.startIn_dev (s : State) (k : SrcKind) (src : Src) (n : Word) :
    (s.startIn k src n).dev = s.dev := by
  simp [State.startIn]
@[simp] theorem State.startIn_irq (s : State) (k : SrcKind) (src : Src) (n : Word) :
    (s.startIn k src n).irq = s.irq := by
  simp [State.startIn]
@[simp] theorem State.startIn_pipeArmed (s : State) (k : SrcKind) (src : Src) (n : Word) :
    (s.startIn k src n).pipeArmed = s.pipeArmed := by
  simp [State.startIn]
@[simp] theorem State.startIn_rx (s : State) (k : SrcKind) (src : Src) (n : Word) :
    (s.startIn k src n).rx = s.rx := by
  simp [State.startIn]
@[simp] theorem State.startIn_tx (s : State) (k : SrcKind) (src : Src) (n : Word) :
    (s.startIn k src n).tx = s.tx := by
  simp [State.startIn]
@[simp] theorem State.startIn_lc (s : State) (k : SrcKind) (src : Src) (n : Word) :
    (s.startIn k src n).lc = s.lc := by
  simp [State.startIn]
@[simp] theorem State.startIn_resetReason (s : State) (k : SrcKind) (src : Src) (n : Word) :
    (s.startIn k src n).resetReason = s.resetReason := by
  simp [State.startIn]
@[simp] theorem State.startIn_diag (s : State) (k : SrcKind) (src : Src) (n : Word) :
    (s.startIn k src n).diag = s.diag := by
  simp [State.startIn]
@[simp] theorem State.startIn_main (s : State) (k : SrcKind) (src : Src) (n : Word) :
    (s.startIn k src n).main = s.main := by
  simp [State.startIn]
@[simp] theorem State.startIn_sie (s : State) (k : SrcKind) (src : Src) (n : Word) :
    (s.startIn k src n).sie = s.sie := by
  simp [State.startIn]
@[simp] theorem State.startIn_wireIn (s : State) (k : SrcKind) (src : Src) (n : Word) :
    (s.startIn k src n).wireIn = s.wireIn := by
  simp [State.startIn]
@[simp] theorem State.startIn_sess (s : State) (k : SrcKind) (src : Src) (n : Word) :
    (s.startIn k src n).sess = s.sess := by
  simp [State.startIn]
@[simp] theorem State.startIn_flashseq (s : State) (k : SrcKind) (src : Src) (n : Word) :
    (s.startIn k src n).flashseq = s.flashseq := by
  simp [State.startIn]
@[simp] theorem State.startIn_busTrace (s : State) (k : SrcKind) (src : Src) (n : Word) :
    (s.startIn k src n).busTrace = s.busTrace := by
  simp [State.startIn]
@[simp] theorem State.startIn_cfg (s : State) (k : SrcKind) (src : Src) (n : Word) :
    (s.startIn k src n).cfg = s.cfg := by
  simp [State.startIn]
@[simp] theorem State.startIn_port (s : State) (k : SrcKind) (src : Src) (n : Word) :
    (s.startIn k src n).port = s.port := by
  simp [State.startIn]
@[simp] theorem State.startIn_cart (s : State) (k : SrcKind) (src : Src) (n : Word) :
    (s.startIn k src n).cart = s.cart := by
  simp [State.startIn]
@[simp] theorem State.startIn_draws (s : State) (k : SrcKind) (src : Src) (n : Word) :
    (s.startIn k src n).draws = s.draws := by
  simp [State.startIn]
@[simp] theorem State.startIn_epoch (s : State) (k : SrcKind) (src : Src) (n : Word) :
    (s.startIn k src n).epoch = s.epoch := by
  simp [State.startIn]
@[simp] theorem State.startIn_ret (s : State) (k : SrcKind) (src : Src) (n : Word) :
    (s.startIn k src n).ret = s.ret := by
  simp [State.startIn]

/-! ### startOut -/

@[simp] theorem State.startOut_dev (s : State) (dest : Option RamRef) (n : Word) :
    (s.startOut dest n).dev = s.dev := by
  simp [State.startOut]
@[simp] theorem State.startOut_irq (s : State) (dest : Option RamRef) (n : Word) :
    (s.startOut dest n).irq = s.irq := by
  simp [State.startOut]
@[simp] theorem State.startOut_buf (s : State) (dest : Option RamRef) (n : Word) :
    (s.startOut dest n).buf = s.buf := by
  simp [State.startOut]
@[simp] theorem State.startOut_pipeArmed (s : State) (dest : Option RamRef) (n : Word) :
    (s.startOut dest n).pipeArmed = s.pipeArmed := by
  simp [State.startOut]
@[simp] theorem State.startOut_rx (s : State) (dest : Option RamRef) (n : Word) :
    (s.startOut dest n).rx = s.rx := by
  simp [State.startOut]
@[simp] theorem State.startOut_tx (s : State) (dest : Option RamRef) (n : Word) :
    (s.startOut dest n).tx = s.tx := by
  simp [State.startOut]
@[simp] theorem State.startOut_lc (s : State) (dest : Option RamRef) (n : Word) :
    (s.startOut dest n).lc = s.lc := by
  simp [State.startOut]
@[simp] theorem State.startOut_resetReason (s : State) (dest : Option RamRef) (n : Word) :
    (s.startOut dest n).resetReason = s.resetReason := by
  simp [State.startOut]
@[simp] theorem State.startOut_diag (s : State) (dest : Option RamRef) (n : Word) :
    (s.startOut dest n).diag = s.diag := by
  simp [State.startOut]
@[simp] theorem State.startOut_main (s : State) (dest : Option RamRef) (n : Word) :
    (s.startOut dest n).main = s.main := by
  simp [State.startOut]
@[simp] theorem State.startOut_sie (s : State) (dest : Option RamRef) (n : Word) :
    (s.startOut dest n).sie = s.sie := by
  simp [State.startOut]
@[simp] theorem State.startOut_wireIn (s : State) (dest : Option RamRef) (n : Word) :
    (s.startOut dest n).wireIn = s.wireIn := by
  simp [State.startOut]
@[simp] theorem State.startOut_sess (s : State) (dest : Option RamRef) (n : Word) :
    (s.startOut dest n).sess = s.sess := by
  simp [State.startOut]
@[simp] theorem State.startOut_flashseq (s : State) (dest : Option RamRef) (n : Word) :
    (s.startOut dest n).flashseq = s.flashseq := by
  simp [State.startOut]
@[simp] theorem State.startOut_busTrace (s : State) (dest : Option RamRef) (n : Word) :
    (s.startOut dest n).busTrace = s.busTrace := by
  simp [State.startOut]
@[simp] theorem State.startOut_cfg (s : State) (dest : Option RamRef) (n : Word) :
    (s.startOut dest n).cfg = s.cfg := by
  simp [State.startOut]
@[simp] theorem State.startOut_port (s : State) (dest : Option RamRef) (n : Word) :
    (s.startOut dest n).port = s.port := by
  simp [State.startOut]
@[simp] theorem State.startOut_cart (s : State) (dest : Option RamRef) (n : Word) :
    (s.startOut dest n).cart = s.cart := by
  simp [State.startOut]
@[simp] theorem State.startOut_draws (s : State) (dest : Option RamRef) (n : Word) :
    (s.startOut dest n).draws = s.draws := by
  simp [State.startOut]
@[simp] theorem State.startOut_epoch (s : State) (dest : Option RamRef) (n : Word) :
    (s.startOut dest n).epoch = s.epoch := by
  simp [State.startOut]
@[simp] theorem State.startOut_ret (s : State) (dest : Option RamRef) (n : Word) :
    (s.startOut dest n).ret = s.ret := by
  simp [State.startOut]

/-! ### beginSetup -/

@[simp] theorem State.beginSetup_dev (s : State) : (s.beginSetup).dev = s.dev := by
  simp [State.beginSetup]
@[simp] theorem State.beginSetup_irq (s : State) : (s.beginSetup).irq = s.irq := by
  simp [State.beginSetup]
@[simp] theorem State.beginSetup_buf (s : State) : (s.beginSetup).buf = s.buf := by
  simp [State.beginSetup]
@[simp] theorem State.beginSetup_pipeArmed (s : State) : (s.beginSetup).pipeArmed = s.pipeArmed := by
  simp [State.beginSetup]
@[simp] theorem State.beginSetup_rx (s : State) : (s.beginSetup).rx = s.rx := by
  simp [State.beginSetup]
@[simp] theorem State.beginSetup_tx (s : State) : (s.beginSetup).tx = s.tx := by
  simp [State.beginSetup]
@[simp] theorem State.beginSetup_lc (s : State) : (s.beginSetup).lc = s.lc := by
  simp [State.beginSetup]
@[simp] theorem State.beginSetup_resetReason (s : State) : (s.beginSetup).resetReason = s.resetReason := by
  simp [State.beginSetup]
@[simp] theorem State.beginSetup_diag (s : State) : (s.beginSetup).diag = s.diag := by
  simp [State.beginSetup]
@[simp] theorem State.beginSetup_main (s : State) : (s.beginSetup).main = s.main := by
  simp [State.beginSetup]
@[simp] theorem State.beginSetup_sie (s : State) : (s.beginSetup).sie = s.sie := by
  simp [State.beginSetup]
@[simp] theorem State.beginSetup_wireIn (s : State) : (s.beginSetup).wireIn = s.wireIn := by
  simp [State.beginSetup]
@[simp] theorem State.beginSetup_sess (s : State) : (s.beginSetup).sess = s.sess := by
  simp [State.beginSetup]
@[simp] theorem State.beginSetup_flashseq (s : State) : (s.beginSetup).flashseq = s.flashseq := by
  simp [State.beginSetup]
@[simp] theorem State.beginSetup_busTrace (s : State) : (s.beginSetup).busTrace = s.busTrace := by
  simp [State.beginSetup]
@[simp] theorem State.beginSetup_cfg (s : State) : (s.beginSetup).cfg = s.cfg := by
  simp [State.beginSetup]
@[simp] theorem State.beginSetup_port (s : State) : (s.beginSetup).port = s.port := by
  simp [State.beginSetup]
@[simp] theorem State.beginSetup_cart (s : State) : (s.beginSetup).cart = s.cart := by
  simp [State.beginSetup]
@[simp] theorem State.beginSetup_draws (s : State) : (s.beginSetup).draws = s.draws := by
  simp [State.beginSetup]
@[simp] theorem State.beginSetup_epoch (s : State) : (s.beginSetup).epoch = s.epoch := by
  simp [State.beginSetup]
@[simp] theorem State.beginSetup_ret (s : State) : (s.beginSetup).ret = s.ret := by
  simp [State.beginSetup]

/-! ### stageReset -/

@[simp] theorem State.stageReset_irq (s : State) (m : Byte) : (s.stageReset m).irq = s.irq := by
  simp [State.stageReset]
@[simp] theorem State.stageReset_bd (s : State) (m : Byte) : (s.stageReset m).bd = s.bd := by
  simp [State.stageReset]
@[simp] theorem State.stageReset_buf (s : State) (m : Byte) : (s.stageReset m).buf = s.buf := by
  simp [State.stageReset]
@[simp] theorem State.stageReset_ctl (s : State) (m : Byte) : (s.stageReset m).ctl = s.ctl := by
  simp [State.stageReset]
@[simp] theorem State.stageReset_pipeArmed (s : State) (m : Byte) : (s.stageReset m).pipeArmed = s.pipeArmed := by
  simp [State.stageReset]
@[simp] theorem State.stageReset_rx (s : State) (m : Byte) : (s.stageReset m).rx = s.rx := by
  simp [State.stageReset]
@[simp] theorem State.stageReset_tx (s : State) (m : Byte) : (s.stageReset m).tx = s.tx := by
  simp [State.stageReset]
@[simp] theorem State.stageReset_lc (s : State) (m : Byte) : (s.stageReset m).lc = s.lc := by
  simp [State.stageReset]
@[simp] theorem State.stageReset_diag (s : State) (m : Byte) : (s.stageReset m).diag = s.diag := by
  simp [State.stageReset]
@[simp] theorem State.stageReset_main (s : State) (m : Byte) : (s.stageReset m).main = s.main := by
  simp [State.stageReset]
@[simp] theorem State.stageReset_sie (s : State) (m : Byte) : (s.stageReset m).sie = s.sie := by
  simp [State.stageReset]
@[simp] theorem State.stageReset_wireIn (s : State) (m : Byte) : (s.stageReset m).wireIn = s.wireIn := by
  simp [State.stageReset]
@[simp] theorem State.stageReset_sess (s : State) (m : Byte) : (s.stageReset m).sess = s.sess := by
  simp [State.stageReset]
@[simp] theorem State.stageReset_flashseq (s : State) (m : Byte) : (s.stageReset m).flashseq = s.flashseq := by
  simp [State.stageReset]
@[simp] theorem State.stageReset_busTrace (s : State) (m : Byte) : (s.stageReset m).busTrace = s.busTrace := by
  simp [State.stageReset]
@[simp] theorem State.stageReset_cfg (s : State) (m : Byte) : (s.stageReset m).cfg = s.cfg := by
  simp [State.stageReset]
@[simp] theorem State.stageReset_port (s : State) (m : Byte) : (s.stageReset m).port = s.port := by
  simp [State.stageReset]
@[simp] theorem State.stageReset_cart (s : State) (m : Byte) : (s.stageReset m).cart = s.cart := by
  simp [State.stageReset]
@[simp] theorem State.stageReset_draws (s : State) (m : Byte) : (s.stageReset m).draws = s.draws := by
  simp [State.stageReset]
@[simp] theorem State.stageReset_epoch (s : State) (m : Byte) : (s.stageReset m).epoch = s.epoch := by
  simp [State.stageReset]
@[simp] theorem State.stageReset_ret (s : State) (m : Byte) : (s.stageReset m).ret = s.ret := by
  simp [State.stageReset]

/-! ### applyAddress -/

@[simp] theorem State.applyAddress_irq (s : State) : (s.applyAddress).irq = s.irq := by
  unfold State.applyAddress; split <;> rfl
@[simp] theorem State.applyAddress_bd (s : State) : (s.applyAddress).bd = s.bd := by
  unfold State.applyAddress; split <;> rfl
@[simp] theorem State.applyAddress_buf (s : State) : (s.applyAddress).buf = s.buf := by
  unfold State.applyAddress; split <;> rfl
@[simp] theorem State.applyAddress_pipeArmed (s : State) : (s.applyAddress).pipeArmed = s.pipeArmed := by
  unfold State.applyAddress; split <;> rfl
@[simp] theorem State.applyAddress_rx (s : State) : (s.applyAddress).rx = s.rx := by
  unfold State.applyAddress; split <;> rfl
@[simp] theorem State.applyAddress_tx (s : State) : (s.applyAddress).tx = s.tx := by
  unfold State.applyAddress; split <;> rfl
@[simp] theorem State.applyAddress_lc (s : State) : (s.applyAddress).lc = s.lc := by
  unfold State.applyAddress; split <;> rfl
@[simp] theorem State.applyAddress_resetReason (s : State) : (s.applyAddress).resetReason = s.resetReason := by
  unfold State.applyAddress; split <;> rfl
@[simp] theorem State.applyAddress_diag (s : State) : (s.applyAddress).diag = s.diag := by
  unfold State.applyAddress; split <;> rfl
@[simp] theorem State.applyAddress_main (s : State) : (s.applyAddress).main = s.main := by
  unfold State.applyAddress; split <;> rfl
@[simp] theorem State.applyAddress_sie (s : State) : (s.applyAddress).sie = s.sie := by
  unfold State.applyAddress; split <;> rfl
@[simp] theorem State.applyAddress_wireIn (s : State) : (s.applyAddress).wireIn = s.wireIn := by
  unfold State.applyAddress; split <;> rfl
@[simp] theorem State.applyAddress_sess (s : State) : (s.applyAddress).sess = s.sess := by
  unfold State.applyAddress; split <;> rfl
@[simp] theorem State.applyAddress_flashseq (s : State) : (s.applyAddress).flashseq = s.flashseq := by
  unfold State.applyAddress; split <;> rfl
@[simp] theorem State.applyAddress_busTrace (s : State) : (s.applyAddress).busTrace = s.busTrace := by
  unfold State.applyAddress; split <;> rfl
@[simp] theorem State.applyAddress_cfg (s : State) : (s.applyAddress).cfg = s.cfg := by
  unfold State.applyAddress; split <;> rfl
@[simp] theorem State.applyAddress_port (s : State) : (s.applyAddress).port = s.port := by
  unfold State.applyAddress; split <;> rfl
@[simp] theorem State.applyAddress_cart (s : State) : (s.applyAddress).cart = s.cart := by
  unfold State.applyAddress; split <;> rfl
@[simp] theorem State.applyAddress_draws (s : State) : (s.applyAddress).draws = s.draws := by
  unfold State.applyAddress; split <;> rfl
@[simp] theorem State.applyAddress_epoch (s : State) : (s.applyAddress).epoch = s.epoch := by
  unfold State.applyAddress; split <;> rfl
@[simp] theorem State.applyAddress_ret (s : State) : (s.applyAddress).ret = s.ret := by
  unfold State.applyAddress; split <;> rfl

/-! ### storeOut -/

@[simp] theorem State.storeOut_dev (s : State) (k : Nat) : (s.storeOut k).dev = s.dev := by
  unfold State.storeOut; split <;> rfl
@[simp] theorem State.storeOut_irq (s : State) (k : Nat) : (s.storeOut k).irq = s.irq := by
  unfold State.storeOut; split <;> rfl
@[simp] theorem State.storeOut_bd (s : State) (k : Nat) : (s.storeOut k).bd = s.bd := by
  unfold State.storeOut; split <;> rfl
@[simp] theorem State.storeOut_buf (s : State) (k : Nat) : (s.storeOut k).buf = s.buf := by
  unfold State.storeOut; split <;> rfl
@[simp] theorem State.storeOut_ctl (s : State) (k : Nat) : (s.storeOut k).ctl = s.ctl := by
  unfold State.storeOut; split <;> rfl
@[simp] theorem State.storeOut_pipeArmed (s : State) (k : Nat) : (s.storeOut k).pipeArmed = s.pipeArmed := by
  unfold State.storeOut; split <;> rfl
@[simp] theorem State.storeOut_rx (s : State) (k : Nat) : (s.storeOut k).rx = s.rx := by
  unfold State.storeOut; split <;> rfl
@[simp] theorem State.storeOut_tx (s : State) (k : Nat) : (s.storeOut k).tx = s.tx := by
  unfold State.storeOut; split <;> rfl
@[simp] theorem State.storeOut_resetReason (s : State) (k : Nat) :
    (s.storeOut k).resetReason = s.resetReason := by
  unfold State.storeOut; split <;> rfl
@[simp] theorem State.storeOut_diag (s : State) (k : Nat) : (s.storeOut k).diag = s.diag := by
  unfold State.storeOut; split <;> rfl
@[simp] theorem State.storeOut_main (s : State) (k : Nat) : (s.storeOut k).main = s.main := by
  unfold State.storeOut; split <;> rfl
@[simp] theorem State.storeOut_sie (s : State) (k : Nat) : (s.storeOut k).sie = s.sie := by
  unfold State.storeOut; split <;> rfl
@[simp] theorem State.storeOut_wireIn (s : State) (k : Nat) : (s.storeOut k).wireIn = s.wireIn := by
  unfold State.storeOut; split <;> rfl
@[simp] theorem State.storeOut_sess (s : State) (k : Nat) : (s.storeOut k).sess = s.sess := by
  unfold State.storeOut; split <;> rfl
@[simp] theorem State.storeOut_flashseq (s : State) (k : Nat) : (s.storeOut k).flashseq = s.flashseq := by
  unfold State.storeOut; split <;> rfl
@[simp] theorem State.storeOut_busTrace (s : State) (k : Nat) : (s.storeOut k).busTrace = s.busTrace := by
  unfold State.storeOut; split <;> rfl
@[simp] theorem State.storeOut_cfg (s : State) (k : Nat) : (s.storeOut k).cfg = s.cfg := by
  unfold State.storeOut; split <;> rfl
@[simp] theorem State.storeOut_port (s : State) (k : Nat) : (s.storeOut k).port = s.port := by
  unfold State.storeOut; split <;> rfl
@[simp] theorem State.storeOut_cart (s : State) (k : Nat) : (s.storeOut k).cart = s.cart := by
  unfold State.storeOut; split <;> rfl
@[simp] theorem State.storeOut_draws (s : State) (k : Nat) : (s.storeOut k).draws = s.draws := by
  unfold State.storeOut; split <;> rfl
@[simp] theorem State.storeOut_epoch (s : State) (k : Nat) : (s.storeOut k).epoch = s.epoch := by
  unfold State.storeOut; split <;> rfl
@[simp] theorem State.storeOut_ret (s : State) (k : Nat) : (s.storeOut k).ret = s.ret := by
  unfold State.storeOut; split <;> rfl

/-! ### enterExec -/

@[simp] theorem State.enterExec_dev (s : State) (c : Byte) (h : List Byte) : (s.enterExec c h).dev = s.dev := rfl
@[simp] theorem State.enterExec_irq (s : State) (c : Byte) (h : List Byte) : (s.enterExec c h).irq = s.irq := rfl
@[simp] theorem State.enterExec_bd (s : State) (c : Byte) (h : List Byte) : (s.enterExec c h).bd = s.bd := rfl
@[simp] theorem State.enterExec_buf (s : State) (c : Byte) (h : List Byte) : (s.enterExec c h).buf = s.buf := rfl
@[simp] theorem State.enterExec_ctl (s : State) (c : Byte) (h : List Byte) : (s.enterExec c h).ctl = s.ctl := rfl
@[simp] theorem State.enterExec_pipeArmed (s : State) (c : Byte) (h : List Byte) :
    (s.enterExec c h).pipeArmed = s.pipeArmed := rfl
@[simp] theorem State.enterExec_rx (s : State) (c : Byte) (h : List Byte) : (s.enterExec c h).rx = s.rx := rfl
@[simp] theorem State.enterExec_tx (s : State) (c : Byte) (h : List Byte) : (s.enterExec c h).tx = s.tx := rfl
@[simp] theorem State.enterExec_lc (s : State) (c : Byte) (h : List Byte) : (s.enterExec c h).lc = s.lc := rfl
@[simp] theorem State.enterExec_resetReason (s : State) (c : Byte) (h : List Byte) :
    (s.enterExec c h).resetReason = s.resetReason := rfl
@[simp] theorem State.enterExec_diag (s : State) (c : Byte) (h : List Byte) :
    (s.enterExec c h).diag = s.diag := rfl
@[simp] theorem State.enterExec_main (s : State) (c : Byte) (h : List Byte) :
    (s.enterExec c h).main = s.main := rfl
@[simp] theorem State.enterExec_sie (s : State) (c : Byte) (h : List Byte) : (s.enterExec c h).sie = s.sie := rfl
@[simp] theorem State.enterExec_wireIn (s : State) (c : Byte) (h : List Byte) :
    (s.enterExec c h).wireIn = s.wireIn := rfl
@[simp] theorem State.enterExec_flashseq (s : State) (c : Byte) (h : List Byte) :
    (s.enterExec c h).flashseq = s.flashseq := rfl
@[simp] theorem State.enterExec_busTrace (s : State) (c : Byte) (h : List Byte) :
    (s.enterExec c h).busTrace = s.busTrace := rfl
@[simp] theorem State.enterExec_cfg (s : State) (c : Byte) (h : List Byte) : (s.enterExec c h).cfg = s.cfg := rfl
@[simp] theorem State.enterExec_port (s : State) (c : Byte) (h : List Byte) :
    (s.enterExec c h).port = s.port := rfl
@[simp] theorem State.enterExec_cart (s : State) (c : Byte) (h : List Byte) :
    (s.enterExec c h).cart = s.cart := rfl
@[simp] theorem State.enterExec_draws (s : State) (c : Byte) (h : List Byte) :
    (s.enterExec c h).draws = s.draws := rfl
@[simp] theorem State.enterExec_epoch (s : State) (c : Byte) (h : List Byte) :
    (s.enterExec c h).epoch = s.epoch := rfl
@[simp] theorem State.enterExec_ret (s : State) (c : Byte) (h : List Byte) : (s.enterExec c h).ret = s.ret := rfl

/-! ### setOut -/

@[simp] theorem State.setOut_dev (s : State) (bs : List Byte) : (s.setOut bs).dev = s.dev := by
  unfold State.setOut; split <;> rfl
@[simp] theorem State.setOut_irq (s : State) (bs : List Byte) : (s.setOut bs).irq = s.irq := by
  unfold State.setOut; split <;> rfl
@[simp] theorem State.setOut_bd (s : State) (bs : List Byte) : (s.setOut bs).bd = s.bd := by
  unfold State.setOut; split <;> rfl
@[simp] theorem State.setOut_buf (s : State) (bs : List Byte) : (s.setOut bs).buf = s.buf := by
  unfold State.setOut; split <;> rfl
@[simp] theorem State.setOut_ctl (s : State) (bs : List Byte) : (s.setOut bs).ctl = s.ctl := by
  unfold State.setOut; split <;> rfl
@[simp] theorem State.setOut_pipeArmed (s : State) (bs : List Byte) : (s.setOut bs).pipeArmed = s.pipeArmed := by
  unfold State.setOut; split <;> rfl
@[simp] theorem State.setOut_rx (s : State) (bs : List Byte) : (s.setOut bs).rx = s.rx := by
  unfold State.setOut; split <;> rfl
@[simp] theorem State.setOut_tx (s : State) (bs : List Byte) : (s.setOut bs).tx = s.tx := by
  unfold State.setOut; split <;> rfl
@[simp] theorem State.setOut_lc (s : State) (bs : List Byte) : (s.setOut bs).lc = s.lc := by
  unfold State.setOut; split <;> rfl
@[simp] theorem State.setOut_resetReason (s : State) (bs : List Byte) :
    (s.setOut bs).resetReason = s.resetReason := by
  unfold State.setOut; split <;> rfl
@[simp] theorem State.setOut_diag (s : State) (bs : List Byte) : (s.setOut bs).diag = s.diag := by
  unfold State.setOut; split <;> rfl
@[simp] theorem State.setOut_main (s : State) (bs : List Byte) : (s.setOut bs).main = s.main := by
  unfold State.setOut; split <;> rfl
@[simp] theorem State.setOut_sie (s : State) (bs : List Byte) : (s.setOut bs).sie = s.sie := by
  unfold State.setOut; split <;> rfl
@[simp] theorem State.setOut_wireIn (s : State) (bs : List Byte) : (s.setOut bs).wireIn = s.wireIn := by
  unfold State.setOut; split <;> rfl
@[simp] theorem State.setOut_flashseq (s : State) (bs : List Byte) : (s.setOut bs).flashseq = s.flashseq := by
  unfold State.setOut; split <;> rfl
@[simp] theorem State.setOut_busTrace (s : State) (bs : List Byte) : (s.setOut bs).busTrace = s.busTrace := by
  unfold State.setOut; split <;> rfl
@[simp] theorem State.setOut_cfg (s : State) (bs : List Byte) : (s.setOut bs).cfg = s.cfg := by
  unfold State.setOut; split <;> rfl
@[simp] theorem State.setOut_port (s : State) (bs : List Byte) : (s.setOut bs).port = s.port := by
  unfold State.setOut; split <;> rfl
@[simp] theorem State.setOut_cart (s : State) (bs : List Byte) : (s.setOut bs).cart = s.cart := by
  unfold State.setOut; split <;> rfl
@[simp] theorem State.setOut_draws (s : State) (bs : List Byte) : (s.setOut bs).draws = s.draws := by
  unfold State.setOut; split <;> rfl
@[simp] theorem State.setOut_epoch (s : State) (bs : List Byte) : (s.setOut bs).epoch = s.epoch := by
  unfold State.setOut; split <;> rfl
@[simp] theorem State.setOut_ret (s : State) (bs : List Byte) : (s.setOut bs).ret = s.ret := by
  unfold State.setOut; split <;> rfl

/-! ### setBurst -/

@[simp] theorem State.setBurst_dev (s : State) (a n : Word) : (s.setBurst a n).dev = s.dev := rfl
@[simp] theorem State.setBurst_irq (s : State) (a n : Word) : (s.setBurst a n).irq = s.irq := rfl
@[simp] theorem State.setBurst_bd (s : State) (a n : Word) : (s.setBurst a n).bd = s.bd := rfl
@[simp] theorem State.setBurst_buf (s : State) (a n : Word) : (s.setBurst a n).buf = s.buf := rfl
@[simp] theorem State.setBurst_ctl (s : State) (a n : Word) : (s.setBurst a n).ctl = s.ctl := rfl
@[simp] theorem State.setBurst_pipeArmed (s : State) (a n : Word) : (s.setBurst a n).pipeArmed = s.pipeArmed := rfl
@[simp] theorem State.setBurst_rx (s : State) (a n : Word) : (s.setBurst a n).rx = s.rx := rfl
@[simp] theorem State.setBurst_tx (s : State) (a n : Word) : (s.setBurst a n).tx = s.tx := rfl
@[simp] theorem State.setBurst_lc (s : State) (a n : Word) : (s.setBurst a n).lc = s.lc := rfl
@[simp] theorem State.setBurst_resetReason (s : State) (a n : Word) :
    (s.setBurst a n).resetReason = s.resetReason := rfl
@[simp] theorem State.setBurst_diag (s : State) (a n : Word) : (s.setBurst a n).diag = s.diag := rfl
@[simp] theorem State.setBurst_main (s : State) (a n : Word) : (s.setBurst a n).main = s.main := rfl
@[simp] theorem State.setBurst_sie (s : State) (a n : Word) : (s.setBurst a n).sie = s.sie := rfl
@[simp] theorem State.setBurst_wireIn (s : State) (a n : Word) : (s.setBurst a n).wireIn = s.wireIn := rfl
@[simp] theorem State.setBurst_flashseq (s : State) (a n : Word) : (s.setBurst a n).flashseq = s.flashseq := rfl
@[simp] theorem State.setBurst_busTrace (s : State) (a n : Word) : (s.setBurst a n).busTrace = s.busTrace := rfl
@[simp] theorem State.setBurst_cfg (s : State) (a n : Word) : (s.setBurst a n).cfg = s.cfg := rfl
@[simp] theorem State.setBurst_port (s : State) (a n : Word) : (s.setBurst a n).port = s.port := rfl
@[simp] theorem State.setBurst_cart (s : State) (a n : Word) : (s.setBurst a n).cart = s.cart := rfl
@[simp] theorem State.setBurst_draws (s : State) (a n : Word) : (s.setBurst a n).draws = s.draws := rfl
@[simp] theorem State.setBurst_epoch (s : State) (a n : Word) : (s.setBurst a n).epoch = s.epoch := rfl
@[simp] theorem State.setBurst_ret (s : State) (a n : Word) : (s.setBurst a n).ret = s.ret := rfl

/-! ### advanceBurst -/

@[simp] theorem State.advanceBurst_dev (s : State) : (s.advanceBurst).dev = s.dev := rfl
@[simp] theorem State.advanceBurst_irq (s : State) : (s.advanceBurst).irq = s.irq := rfl
@[simp] theorem State.advanceBurst_bd (s : State) : (s.advanceBurst).bd = s.bd := rfl
@[simp] theorem State.advanceBurst_buf (s : State) : (s.advanceBurst).buf = s.buf := rfl
@[simp] theorem State.advanceBurst_ctl (s : State) : (s.advanceBurst).ctl = s.ctl := rfl
@[simp] theorem State.advanceBurst_pipeArmed (s : State) : (s.advanceBurst).pipeArmed = s.pipeArmed := rfl
@[simp] theorem State.advanceBurst_rx (s : State) : (s.advanceBurst).rx = s.rx := rfl
@[simp] theorem State.advanceBurst_tx (s : State) : (s.advanceBurst).tx = s.tx := rfl
@[simp] theorem State.advanceBurst_lc (s : State) : (s.advanceBurst).lc = s.lc := rfl
@[simp] theorem State.advanceBurst_resetReason (s : State) : (s.advanceBurst).resetReason = s.resetReason := rfl
@[simp] theorem State.advanceBurst_diag (s : State) : (s.advanceBurst).diag = s.diag := rfl
@[simp] theorem State.advanceBurst_main (s : State) : (s.advanceBurst).main = s.main := rfl
@[simp] theorem State.advanceBurst_sie (s : State) : (s.advanceBurst).sie = s.sie := rfl
@[simp] theorem State.advanceBurst_wireIn (s : State) : (s.advanceBurst).wireIn = s.wireIn := rfl
@[simp] theorem State.advanceBurst_flashseq (s : State) : (s.advanceBurst).flashseq = s.flashseq := rfl
@[simp] theorem State.advanceBurst_busTrace (s : State) : (s.advanceBurst).busTrace = s.busTrace := rfl
@[simp] theorem State.advanceBurst_cfg (s : State) : (s.advanceBurst).cfg = s.cfg := rfl
@[simp] theorem State.advanceBurst_port (s : State) : (s.advanceBurst).port = s.port := rfl
@[simp] theorem State.advanceBurst_cart (s : State) : (s.advanceBurst).cart = s.cart := rfl
@[simp] theorem State.advanceBurst_draws (s : State) : (s.advanceBurst).draws = s.draws := rfl
@[simp] theorem State.advanceBurst_epoch (s : State) : (s.advanceBurst).epoch = s.epoch := rfl
@[simp] theorem State.advanceBurst_ret (s : State) : (s.advanceBurst).ret = s.ret := rfl

/-! ### at -/

@[simp] theorem State.at_dev (s : State) (p : MainPoint) : (s.at p).dev = s.dev := rfl
@[simp] theorem State.at_irq (s : State) (p : MainPoint) : (s.at p).irq = s.irq := rfl
@[simp] theorem State.at_bd (s : State) (p : MainPoint) : (s.at p).bd = s.bd := rfl
@[simp] theorem State.at_buf (s : State) (p : MainPoint) : (s.at p).buf = s.buf := rfl
@[simp] theorem State.at_ctl (s : State) (p : MainPoint) : (s.at p).ctl = s.ctl := rfl
@[simp] theorem State.at_pipeArmed (s : State) (p : MainPoint) : (s.at p).pipeArmed = s.pipeArmed := rfl
@[simp] theorem State.at_rx (s : State) (p : MainPoint) : (s.at p).rx = s.rx := rfl
@[simp] theorem State.at_tx (s : State) (p : MainPoint) : (s.at p).tx = s.tx := rfl
@[simp] theorem State.at_lc (s : State) (p : MainPoint) : (s.at p).lc = s.lc := rfl
@[simp] theorem State.at_resetReason (s : State) (p : MainPoint) : (s.at p).resetReason = s.resetReason := rfl
@[simp] theorem State.at_diag (s : State) (p : MainPoint) : (s.at p).diag = s.diag := rfl
@[simp] theorem State.at_sie (s : State) (p : MainPoint) : (s.at p).sie = s.sie := rfl
@[simp] theorem State.at_wireIn (s : State) (p : MainPoint) : (s.at p).wireIn = s.wireIn := rfl
@[simp] theorem State.at_sess (s : State) (p : MainPoint) : (s.at p).sess = s.sess := rfl
@[simp] theorem State.at_flashseq (s : State) (p : MainPoint) : (s.at p).flashseq = s.flashseq := rfl
@[simp] theorem State.at_busTrace (s : State) (p : MainPoint) : (s.at p).busTrace = s.busTrace := rfl
@[simp] theorem State.at_cfg (s : State) (p : MainPoint) : (s.at p).cfg = s.cfg := rfl
@[simp] theorem State.at_port (s : State) (p : MainPoint) : (s.at p).port = s.port := rfl
@[simp] theorem State.at_cart (s : State) (p : MainPoint) : (s.at p).cart = s.cart := rfl
@[simp] theorem State.at_draws (s : State) (p : MainPoint) : (s.at p).draws = s.draws := rfl
@[simp] theorem State.at_epoch (s : State) (p : MainPoint) : (s.at p).epoch = s.epoch := rfl
@[simp] theorem State.at_ret (s : State) (p : MainPoint) : (s.at p).ret = s.ret := rfl

end Sys2Proof.Machine
end

