-- ==== Sys2Proof/Laws/Memory.lean ====
section
/-! SUPPORT. The laws of BUF (20_memory.md R81; log 9): a read after a write, and the canonical form. -/

set_option Elab.async false

namespace Sys2Proof.Machine

/-! ### The list of cells -/

theorem Memory.find_insert_same (m : Memory) (a : Nat) (b : Byte) : (Memory.insert m a b).find a = some b := by
  induction m with
  | nil => simp [Memory.insert, Memory.find]
  | cons c m ih =>
    obtain ⟨k, v⟩ := c
    simp only [Memory.insert]
    split
    · simp [Memory.find]
    · split
      · simp [Memory.find]
      · rename_i _ h
        simpa [Memory.find, Ne.symm h] using ih

theorem Memory.find_insert_ne (m : Memory) {a x : Nat} (b : Byte) (h : x ≠ a) :
    (Memory.insert m a b).find x = m.find x := by
  induction m with
  | nil => simp [Memory.insert, Memory.find, Ne.symm h]
  | cons c m ih =>
    obtain ⟨k, v⟩ := c
    simp only [Memory.insert]
    split
    · simp [Memory.find, Ne.symm h]
    · split
      · rename_i _ hk
        subst hk
        simp [Memory.find, Ne.symm h]
      · by_cases hx : k = x
        · simp [Memory.find, hx]
        · simpa [Memory.find, hx] using ih

theorem Memory.wfFrom_mono {m : Memory} {lo lo' : Nat} (h : lo' ≤ lo) (hm : Memory.wfFrom lo m = true) :
    Memory.wfFrom lo' m = true := by
  cases m with
  | nil => rfl
  | cons c m =>
    obtain ⟨k, v⟩ := c
    simp only [Memory.wfFrom, Bool.and_eq_true, decide_eq_true_eq] at hm ⊢
    exact ⟨⟨by omega, hm.1.2⟩, hm.2⟩

theorem Memory.wfFrom_insert {m : Memory} {lo a : Nat} (b : Byte) (hm : Memory.wfFrom lo m = true) (hlo : lo ≤ a)
    (ha : a < bufSize) : Memory.wfFrom lo (Memory.insert m a b) = true := by
  induction m generalizing lo with
  | nil => simp [Memory.insert, Memory.wfFrom, hlo, ha]
  | cons c m ih =>
    obtain ⟨k, v⟩ := c
    simp only [Memory.wfFrom, Bool.and_eq_true, decide_eq_true_eq] at hm
    obtain ⟨⟨h1, h2⟩, h3⟩ := hm
    simp only [Memory.insert]
    split
    · rename_i hk
      simp only [Memory.wfFrom, Bool.and_eq_true, decide_eq_true_eq]
      exact ⟨⟨hlo, ha⟩, ⟨by omega, h2⟩, h3⟩
    · split
      · rename_i _ hk
        subst hk
        simp only [Memory.wfFrom, Bool.and_eq_true, decide_eq_true_eq]
        exact ⟨⟨hlo, ha⟩, h3⟩
      · simp only [Memory.wfFrom, Bool.and_eq_true, decide_eq_true_eq]
        exact ⟨⟨h1, h2⟩, ih h3 (by omega)⟩

/-- A write keeps the canonical form. -/
theorem Memory.wf_insert {m : Memory} {a : Nat} (b : Byte) (hm : m.wf = true) (ha : a < bufSize) :
    (Memory.insert m a b).wf = true := Memory.wfFrom_insert b hm (Nat.zero_le a) ha

/-! ### Places -/

/-- Two different places of BUF have different numbers (log 9). -/
theorem DescId.base_add_ne {d e : DescId} {i j : Nat} (hi : i < 64) (hj : j < 64) (h : ¬ (d = e ∧ i = j)) :
    d.base + i ≠ e.base + j := by
  intro heq
  apply h
  rcases d with _ | _ | _ | b | b <;> rcases e with _ | _ | _ | c | c <;> (try cases b) <;> (try cases c) <;>
    simp only [DescId.base] at heq <;> first | (refine ⟨rfl, by omega⟩) | omega

/-- A byte of a buffer has a number of BUF (log 9). -/
theorem DescId.base_add_lt {d : DescId} {i : Nat} (hd : d ≠ .notifIn) (hi : i < 64) : d.base + i < bufSize := by
  rcases d with _ | _ | _ | b | b <;> (try cases b) <;> simp only [DescId.base, bufSize] <;> first | omega | exact absurd rfl hd

/-! ### Reads and writes of one byte -/

/-- A read after a write to the same place. -/
@[simp] theorem State.readBuf_writeBuf_same (s : State) (d : DescId) (i : Nat) (b : Byte) :
    (s.writeBuf d i b).readBuf d i = b := by
  simp [State.readBuf, State.writeBuf, Memory.find_insert_same]

/-- A read of another place. -/
theorem State.readBuf_writeBuf_ne (s : State) {d e : DescId} {i j : Nat} (b : Byte)
    (h : e.base + j ≠ d.base + i) : (s.writeBuf d i b).readBuf e j = s.readBuf e j := by
  simp [State.readBuf, State.writeBuf, Memory.find_insert_ne _ _ h]

/-- What a write of several bytes leaves at every place of BUF. -/
theorem State.readBuf_writeBufs (bs : List Byte) : ∀ (s : State) (d e : DescId) (i j : Nat),
    i + bs.length ≤ 64 → j < 64 →
    (s.writeBufs d i bs).readBuf e j =
      if d = e ∧ i ≤ j ∧ j < i + bs.length then bs.getD (j - i) 0#8 else s.readBuf e j := by
  induction bs with
  | nil =>
    intro s d e i j _ _
    simp [State.writeBufs]
  | cons b bs ih =>
    intro s d e i j hl hj
    simp only [List.length_cons] at hl ⊢
    rw [State.writeBufs, ih (s.writeBuf d i b) d e (i + 1) j (by omega) hj]
    by_cases hde : d = e
    · subst hde
      by_cases hij : j = i
      · subst hij
        have h1 : ¬ (d = d ∧ j + 1 ≤ j ∧ j < j + 1 + bs.length) := by omega
        have h2 : d = d ∧ j ≤ j ∧ j < j + (bs.length + 1) := ⟨rfl, le_refl _, by omega⟩
        rw [if_neg h1, if_pos h2]
        simp
      · rw [State.readBuf_writeBuf_ne s b (DescId.base_add_ne hj (by omega) (by omega))]
        by_cases hc : i + 1 ≤ j ∧ j < i + 1 + bs.length
        · have e1 : j - i = (j - (i + 1)) + 1 := by omega
          rw [if_pos ⟨rfl, hc⟩, if_pos ⟨rfl, by omega, by omega⟩, e1]
          simp
        · rw [if_neg (fun h => hc h.2), if_neg (fun h => hc ⟨by omega, by omega⟩)]
    · have h1 : ∀ p : Prop, ¬ (d = e ∧ p) := fun _ h => hde h.1
      rw [if_neg (h1 _), if_neg (h1 _)]
      exact State.readBuf_writeBuf_ne s b (DescId.base_add_ne hj (by omega) (fun h => hde h.1.symm))

/-- A write of bytes that lie in a buffer keeps the canonical form. -/
theorem State.writeBufs_wf (bs : List Byte) : ∀ (s : State) (d : DescId) (i : Nat),
    d ≠ .notifIn → i + bs.length ≤ 64 → s.buf.wf = true → (s.writeBufs d i bs).buf.wf = true := by
  induction bs with
  | nil => intro s d i _ _ h; exact h
  | cons b bs ih =>
    intro s d i hd hl h
    simp only [List.length_cons] at hl
    exact ih _ d (i + 1) hd (by omega) (Memory.wf_insert b h (DescId.base_add_lt hd (by omega)))

/-- Memory as power-on leaves it has the canonical form. -/
theorem State.powerOn_buf_wf (cfg : Params) (n : Nat) : (State.powerOn cfg n).buf.wf = true := rfl

/-- Memory right after reset has the canonical form. -/
theorem State.reset_buf_wf : State.reset.buf.wf = true := rfl

end Sys2Proof.Machine
end

