-- ==== Sys2Proof/Laws/Ops.lean ====
section
/-! SUPPORT. For each shared operation, once, everything it can do; provers cite these and do not unfold it. -/

set_option Elab.async false

namespace Sys2Proof.Machine

/-! ### Descriptors and halves -/

@[simp] theorem BdTable.get_put_same (t : BdTable) (d : DescId) (v : Bd) : (t.put d v).get d = v := by
  rcases d with _ | _ | _ | h | h <;> (try cases h) <;> rfl

theorem BdTable.get_put_ne (t : BdTable) {d e : DescId} (v : Bd) (h : e ≠ d) : (t.put d v).get e = t.get e := by
  rcases d with _ | _ | _ | x | x <;> (try cases x) <;> rcases e with _ | _ | _ | y | y <;> (try cases y) <;>
    first | rfl | exact absurd rfl h

@[simp] theorem State.desc_setDesc_same (s : State) (d : DescId) (v : Bd) : (s.setDesc d v).desc d = v :=
  BdTable.get_put_same _ _ _

theorem State.desc_setDesc_ne (s : State) {d e : DescId} (v : Bd) (h : e ≠ d) :
    (s.setDesc d v).desc e = s.desc e := BdTable.get_put_ne _ _ h

/-- A descriptor after one of them has been replaced. -/
theorem State.desc_setDesc (s : State) (d e : DescId) (v : Bd) :
    (s.setDesc d v).desc e = if e = d then v else s.desc e := by
  split
  · rename_i h; subst h; simp
  · rename_i h; exact State.desc_setDesc_ne s v h

/-- Arming with stall (R86): every descriptor after it. -/
theorem State.desc_armStall (s : State) (d e : DescId) (n : Nat) (t : Bit) (stall : Bool) :
    (s.armStall d n t stall).desc e =
      if e = d then { own := .engine, dts := t, stall := stall, count := BitVec.ofNat 10 n } else s.desc e :=
  State.desc_setDesc _ _ _ _

/-- Arming (R86): every descriptor after it. -/
theorem State.desc_arm (s : State) (d e : DescId) (n : Nat) (t : Bit) :
    (s.arm d n t).desc e =
      if e = d then { own := .engine, dts := t, stall := false, count := BitVec.ofNat 10 n } else s.desc e :=
  State.desc_setDesc _ _ _ _

/-- The stalled state (R167): every descriptor after it. -/
theorem State.desc_setStalled (s : State) (d e : DescId) :
    (s.setStalled d).desc e =
      if e = d then { own := .engine, dts := false, stall := true, count := BitVec.ofNat 10 (capacity s.cfg d) }
      else s.desc e :=
  State.desc_setDesc _ _ _ _

/-- Every descriptor after the bus-reset initialisation is in the stalled state (R166, R167). -/
theorem State.desc_stallAll (s : State) (d : DescId) :
    s.stallAll.desc d =
      { own := .engine, dts := false, stall := true, count := BitVec.ofNat 10 (capacity s.cfg d) } := by
  rcases d with _ | _ | _ | h | h <;> (try cases h) <;> rfl

/-- The bytes of BUF through an update of a descriptor. -/
@[simp] theorem State.setDesc_readBuf (s : State) (d e : DescId) (v : Bd) (i : Nat) :
    (s.setDesc d v).readBuf e i = s.readBuf e i := rfl

@[simp] theorem Busy.get_put_same (b : Busy) (h : Bit) (v : Bool) : (b.put h v).get h = v := by
  cases h <;> rfl

@[simp] theorem Busy.get_put_other (b : Busy) (h : Bit) (v : Bool) : (b.put h v).get (!h) = b.get (!h) := by
  cases h <;> rfl

/-! ### The interrupt group through its updates -/

@[simp] theorem State.setMask_irq (s : State) (v : BitVec 8) :
    (s.setMask v).irq = { s.irq with mask := maskWritten v } := rfl

@[simp] theorem State.setEnable_irq (s : State) (v : Bool) : (s.setEnable v).irq = { s.irq with enable := v } := rfl

@[simp] theorem State.setPending_irq (s : State) (v : Pending) :
    (s.setPending v).irq = { s.irq with pending := v } := rfl

@[simp] theorem State.setTrn_irq (s : State) (v : List Completion) :
    (s.setTrn v).irq = { s.irq with trn := v } := rfl

/-- The two masks the block ever writes are written as they are (R31). -/
@[simp] theorem maskWritten_normal : maskWritten maskNormal = maskNormal := by decide

@[simp] theorem maskWritten_suspend : maskWritten maskSuspend = maskSuspend := by decide

/-- R161's second clause: only ACTIVITY can become pending, and only while suspended. -/
theorem State.noteActivity_irq (s : State) :
    s.noteActivity.irq =
      { s.irq with pending := { s.irq.pending with activity := s.irq.pending.activity || s.dev.suspended } } := by
  unfold State.noteActivity
  split <;> rename_i h
  · simp [h]
  · simp [Bool.not_eq_true _ ▸ h]

@[simp] theorem State.noteActivity_desc (s : State) (d : DescId) : s.noteActivity.desc d = s.desc d := by
  simp [State.desc]

@[simp] theorem State.noteActivity_readBuf (s : State) (d : DescId) (i : Nat) :
    s.noteActivity.readBuf d i = s.readBuf d i := by
  simp [State.readBuf]

/-! ### What an enabling test, a hold and the interrupt's entry can answer -/

/-- A step that answers a next state either ran or was not enabled (log 2). -/
theorem whenEnabled_next {e : Bool} {s t : State} {r : Result} (h : whenEnabled e s r = .next t) :
    (e = true ∧ r = .next t) ∨ (e = false ∧ t = s.setRet .notEnabled) := by
  cases e with
  | true => exact .inl ⟨rfl, h⟩
  | false => exact .inr ⟨rfl, (Host.Outcome.next.inj h).symm⟩

/-- A firmware operation that answers a next state either ran or was held (R297, log 3). -/
theorem whenAwake_next {s t : State} {r : Result} (h : whenAwake s r = .next t) :
    (s.main.asleep = false ∧ r = .next t) ∨ (s.main.asleep = true ∧ t = s.setRet .held) := by
  unfold whenAwake at h
  split at h <;> rename_i ha
  · exact .inr ⟨ha, (Host.Outcome.next.inj h).symm⟩
  · exact .inl ⟨by simpa using ha, h⟩

/-- The interrupt's entry answers a next state only where the chosen handler does, or nothing is taken (R384). -/
theorem takeInterrupt_next {s t : State} {f : Source → Result} (h : takeInterrupt s f = .next t) :
    (s.irq.enable = true ∧ s.dev.state ≠ .detached ∧ ∃ src, s.interruptSource = some src ∧ f src = .next t) ∨
    t = s.setRet .notEnabled := by
  unfold takeInterrupt at h
  split at h <;> rename_i hc
  · simp only [Bool.and_eq_true, decide_eq_true_eq] at hc
    split at h
    · rename_i src hs
      exact .inl ⟨hc.1, hc.2, src, hs, h⟩
    · exact .inr (Host.Outcome.next.inj h).symm
  · exact .inr (Host.Outcome.next.inj h).symm

/-- A source that is chosen is pending and its mask bit is set (R384). -/
theorem State.isTaken_of_interruptSource {s : State} {src : Source} (h : s.interruptSource = some src) :
    s.isTaken src = true := by
  unfold State.interruptSource at h
  split at h
  · cases h; assumption
  · split at h
    · cases h; assumption
    · split at h
      · cases h; assumption
      · split at h
        · cases h; assumption
        · split at h
          · cases h; assumption
          · cases h

/-! ### Bus reset initialisation -/

/-- What `usb_reset_init()` makes of the session (R166, R75): the parser fields at their reset values, the lock and the mode
kept. -/
@[simp] theorem State.usbResetInit_sess (s : State) : s.usbResetInit.sess = s.sess.busReset := rfl

/-! ### The pipe -/

/-- What `flush_body()` does (R281): nothing; or it takes the free half `tx.next` and keeps it empty; or it arms the
active or freshly taken slice. -/
theorem State.flushSlice_cases (s : State) (x : TxSlice) :
    (s.flushSlice x = (true, s) ∧ x.fill = 0 ∧ s.tx.zlpOwed = false) ∨
    (s.flushSlice x = (!((s.txArm x.half x.fill).txTryAcquire).tx.zlpOwed, (s.txArm x.half x.fill).txTryAcquire) ∧
      ¬ (x.fill = 0 ∧ s.tx.zlpOwed = false)) := by
  unfold State.flushSlice
  split <;> rename_i h
  · exact .inl ⟨rfl, h⟩
  · exact .inr ⟨rfl, h⟩

/-- What `tx_try_acquire()` does (R277): only `tx.slice` can change, from none to the empty slice of `tx.next`. -/
theorem State.txTryAcquire_cases (s : State) :
    s.txTryAcquire = s ∨
    (s.tx.slice = none ∧ s.tx.busy.get s.tx.next = false ∧
      s.txTryAcquire = s.setTx { s.tx with slice := some { half := s.tx.next, fill := 0, rem := 64 } }) := by
  unfold State.txTryAcquire
  split
  · exact .inl rfl
  · split <;> rename_i hs hb
    · exact .inl rfl
    · exact .inr ⟨hs, by simpa using hb, rfl⟩

/-- What `rx_try_expose()` does (R275): only `rx.slice` can change. -/
theorem State.rxTryExpose_cases (s : State) :
    s.rxTryExpose = s ∨
    (s.rx.busy.get s.rx.next = false ∧
      s.rxTryExpose = s.setRx { s.rx with slice := some { half := s.rx.next, off := 0,
                                                          len := (s.desc (.bulkOut s.rx.next)).count.toNat } }) := by
  unfold State.rxTryExpose
  split <;> rename_i hb
  · exact .inl rfl
  · exact .inr ⟨by simpa using hb, rfl⟩

/-! ### Commands -/

/-- What the start of a command can do (R324, R326; log 19): it always answers a next state. -/
theorem startCommand_cases (id : BitVec 5) (mods : BitVec 3) (header : List Byte) (f : State → State) (s : State) :
    (s.sess.phase ≠ .exec ∧
      startCommand id mods header f s = .next ((f (s.enterExec (mkCommand mods id) header)).setRet .none)) ∨
    (s.sess.phase = .awaitId ∧ lockRequired id = true ∧ s.sess.unlocked = false ∧
      startCommand id mods header f s = .next (s.setRet .none)) ∨
    (s.sess.phase = .exec ∧ startCommand id mods header f s = .next (s.setRet .notEnabled)) := by
  unfold startCommand
  cases hp : s.sess.phase with
  | awaitId =>
    by_cases hl : (lockRequired id && !s.sess.unlocked) = true
    · simp only [Bool.and_eq_true, Bool.not_eq_true'] at hl
      exact .inr (.inl ⟨rfl, hl.1, hl.2, by simp [hl, returning]⟩)
    · exact .inl ⟨by simp, by simp only [Bool.not_eq_true] at hl; simp [hl, returning]⟩
  | header => exact .inl ⟨by simp, rfl⟩
  | exec => exact .inr (.inr ⟨rfl, rfl⟩)

/-- `BusRead` (R97): only the trace, the answers and the free-value counter can change. -/
theorem State.busRead_cases (s : State) (a : Word) (cs ce : Bool) :
    (∃ b rest, s.cart = b :: rest ∧ (s.busRead a cs ce).1 = b ∧
      (s.busRead a cs ce).2 = (s.setBusTrace (s.busTrace ++ [.read a cs ce])).setCart rest) ∨
    (s.cart = [] ∧ (s.busRead a cs ce).1 = Config.freeByte s.draws ∧
      (s.busRead a cs ce).2 = (s.setBusTrace (s.busTrace ++ [.read a cs ce])).setDraws (s.draws + 1)) := by
  rcases h : s.cart with _ | ⟨b, rest⟩
  · exact .inr ⟨rfl, by simp [State.busRead, State.oracleByte, h],
      by simp [State.busRead, State.oracleNext, State.traceBus, State.drew, h]⟩
  · exact .inl ⟨b, rest, rfl, by simp [State.busRead, State.oracleByte, h],
      by simp [State.busRead, State.oracleNext, State.traceBus, h]⟩

/-! ### A SETUP step -/

/-- A request with a side effect always answers a next state (R201). -/
theorem answerSetupWith_next (f : State → State) (a : Answer) (q : SetupFields) (s : State) :
    answerSetupWith f a q s = .next (((f s.beginSetup).startStage a q.wLength).setRet .none) := rfl

theorem answerSetup_next (a : Answer) (q : SetupFields) (s : State) :
    answerSetup a q s = .next ((s.beginSetup.startStage a q.wLength).setRet .none) := rfl

/-- R222: whatever the answer, the SETUP step leaves `bd[0][OUT]` with the engine. -/
theorem State.startStage_ep0Out (s : State) (a : Answer) (w : Word) :
    ((s.startStage a w).desc .ep0Out).own = .engine := by
  cases a with
  | stall => rfl
  | noData => rfl
  | dataIn k src => rfl
  | dataOut dest =>
    unfold State.startStage
    by_cases h : w = 0#16 <;> simp only [h, if_true, if_false] <;> rfl

end Sys2Proof.Machine
end

