-- ==== Sys2Proof/Laws/MainLoop.lean ====
section
/-! SUPPORT. What the pipe's firmware operations and the main loop's own program can do, said once: which fields each can
change, and the cases of a main-loop step. -/

namespace Sys2Proof.Machine

/-! ### The pipe's firmware operations (42_bulk_pipe.md R271-R281) -/

theorem State.rxRecycle_frame (s : State) : s.rxRecycle = { s with bd := s.rxRecycle.bd, rx := s.rxRecycle.rx } := by
  unfold State.rxRecycle
  split
  · split <;> rfl
  · rfl

theorem State.rxAcquire_frame (s : State) : s.rxAcquire = { s with rx := s.rxAcquire.rx } := by
  unfold State.rxAcquire State.rxTryExpose
  split
  · rfl
  · split <;> rfl

theorem State.txTryAcquire_frame (s : State) : s.txTryAcquire = { s with tx := s.txTryAcquire.tx } := by
  rcases s.txTryAcquire_cases with h | ⟨-, -, h⟩
  · rw [h]
  · rw [h]
    rfl

theorem State.txArm_frame (s : State) (h : Bit) (n : Nat) :
    s.txArm h n = { s with bd := (s.txArm h n).bd, tx := (s.txArm h n).tx } := rfl

theorem State.flushSlice_frame (s : State) (x : TxSlice) :
    (s.flushSlice x).2 = { s with bd := (s.flushSlice x).2.bd, tx := (s.flushSlice x).2.tx } := by
  rcases s.flushSlice_cases x with ⟨h, -, -⟩ | ⟨h, -⟩ <;> rw [h]
  dsimp only
  rw [State.txTryAcquire_frame, State.txArm_frame]

theorem State.flushBody_frame (s : State) :
    s.flushBody.2 = { s with bd := s.flushBody.2.bd, tx := s.flushBody.2.tx } := by
  unfold State.flushBody
  split
  · exact s.flushSlice_frame _
  · split
    · split
      · rw [State.flushSlice_frame, State.txTryAcquire_frame]
      · dsimp only
        rw [State.txTryAcquire_frame]
    · rfl

theorem State.txRecycle_frame (s : State) : s.txRecycle = { s with bd := s.txRecycle.bd, tx := s.txRecycle.tx } := by
  unfold State.txRecycle
  split
  · split
    · exact s.flushBody_frame
    · rfl
  · rfl

/-- ACQ_RX changes only the descriptors, the receive side and what is returned (R271). -/
theorem execAcqRx_frame {s t : State} (h : execAcqRx s = .next t) : t = { s with bd := t.bd, rx := t.rx, ret := t.ret } := by
  unfold execAcqRx at h
  rcases whenAwake_next h with ⟨-, h⟩ | ⟨-, rfl⟩
  · split at h
    · obtain rfl := Host.Outcome.next.inj h
      rw [State.rxAcquire_frame, State.rxRecycle_frame]
      rfl
    · obtain rfl := Host.Outcome.next.inj h
      rfl
  · rfl

/-- RX_READ changes only what is returned (R273). -/
theorem execRxRead_frame {s t : State} {k : BitVec 6} (h : execRxRead k s = .next t) : t = { s with ret := t.ret } := by
  unfold execRxRead at h
  rcases whenAwake_next h with ⟨-, h⟩ | ⟨-, rfl⟩
  · split at h
    · cases h
    · split at h
      · cases h
      · split at h
        · obtain rfl := Host.Outcome.next.inj h
          rfl
        · cases h
  · rfl

/-- RX_TAKE changes only the receive side and what is returned (R274). -/
theorem execRxTake_frame {s t : State} {n : Byte} (h : execRxTake n s = .next t) :
    t = { s with rx := t.rx, ret := t.ret } := by
  unfold execRxTake at h
  rcases whenAwake_next h with ⟨-, h⟩ | ⟨-, rfl⟩
  · split at h
    · cases h
    · split at h
      · cases h
      · obtain rfl := Host.Outcome.next.inj h
        rfl
  · rfl

/-- ACQ_TX changes only the descriptors, the transmit side and what is returned (R276). -/
theorem execAcqTx_frame {s t : State} (h : execAcqTx s = .next t) : t = { s with bd := t.bd, tx := t.tx, ret := t.ret } := by
  unfold execAcqTx at h
  rcases whenAwake_next h with ⟨-, h⟩ | ⟨-, rfl⟩
  · split at h
    · obtain rfl := Host.Outcome.next.inj h
      rw [State.txTryAcquire_frame, State.txRecycle_frame]
      rfl
    · obtain rfl := Host.Outcome.next.inj h
      rfl
  · rfl

/-- TX_PUT changes only the buffers, the transmit side and what is returned (R278). -/
theorem execTxPut_frame {s t : State} {b : Byte} (h : execTxPut b s = .next t) :
    t = { s with buf := t.buf, tx := t.tx, ret := t.ret } := by
  unfold execTxPut at h
  rcases whenAwake_next h with ⟨-, h⟩ | ⟨-, rfl⟩
  · split at h
    · cases h
    · split at h
      · cases h
      · split at h
        · obtain rfl := Host.Outcome.next.inj h
          rfl
        · cases h
  · rfl

/-- FLUSH changes only the descriptors, the transmit side and what is returned (R281). -/
theorem execFlush_frame {s t : State} (h : execFlush s = .next t) : t = { s with bd := t.bd, tx := t.tx, ret := t.ret } := by
  unfold execFlush at h
  rcases whenAwake_next h with ⟨-, h⟩ | ⟨-, rfl⟩
  · split at h
    · obtain rfl := Host.Outcome.next.inj h
      rw [State.flushBody_frame]
      rfl
    · obtain rfl := Host.Outcome.next.inj h
      rfl
  · rfl

/-! ### The main loop (43_command_protocol.md R321, R322) -/

/-- `dispatch_step()` up to its next call: it only moves the place, or ends the command, or prepares FLASH_BURST's echo. -/
theorem State.dispatchPoint_cases (s : State) :
    (∃ p, s.dispatchPoint = s.at p) ∨ s.dispatchPoint = s.finishAndAwait ∨
    s.dispatchPoint = (s.setSess { s.sess with out := [0x00#8, 0x00#8], step := 0 }).at (.emitAcq 0x00#8) := by
  unfold State.dispatchPoint
  split
  · exact .inl ⟨_, rfl⟩
  · exact .inl ⟨_, rfl⟩
  · split
    · exact .inl ⟨_, rfl⟩
    · split
      · unfold State.streamPoint
        split
        · split
          · exact .inr (.inl rfl)
          · exact .inl ⟨_, rfl⟩
        · split
          · exact .inr (.inl rfl)
          · exact .inl ⟨_, rfl⟩
        · split
          · exact .inr (.inl rfl)
          · exact .inl ⟨_, rfl⟩
        · split
          · exact .inr (.inr rfl)
          · exact .inl ⟨_, rfl⟩
        · exact .inr (.inl rfl)
      · split
        · exact .inl ⟨_, rfl⟩
        · exact .inr (.inl rfl)

/-- `dispatch_step()` up to its next call changes only the session and the place. -/
theorem State.dispatchPoint_frame (s : State) :
    s.dispatchPoint = { s with sess := s.dispatchPoint.sess, main := s.dispatchPoint.main } := by
  rcases s.dispatchPoint_cases with ⟨p, h⟩ | h | h <;> rw [h] <;> rfl

/-- What a main-loop step that answers a next state did (R321): held, one poll iteration, or the call of its place and what
follows it. -/
theorem mainLoopStep_next {s t : State} (h : mainLoopStep s = .next t) :
    (s.main.asleep = true ∧ t = s.setRet .held) ∨
    (s.main.asleep = false ∧ s.main.point = .top ∧ ∃ p, s.sess.poll = some p ∧ t = (s.pollIteration p).setRet .none) ∨
    (s.main.asleep = false ∧ (s.main.point ≠ .top ∨ s.sess.poll = none) ∧
      ∃ u, exec (mainCall s.main.point) s = .next u ∧ mainResume s.main.point u = .next t) := by
  unfold mainLoopStep at h
  split at h <;> rename_i ha
  · exact .inl ⟨ha, (Host.Outcome.next.inj h).symm⟩
  · have ha : s.main.asleep = false := by simpa using ha
    split at h
    · rename_i p hp hq
      exact .inr (.inl ⟨ha, hp, p, hq, (Host.Outcome.next.inj h).symm⟩)
    · rename_i hn
      refine .inr (.inr ⟨ha, ?_, ?_⟩)
      · by_cases hp : s.main.point = .top
        · exact .inr (Option.eq_none_iff_forall_ne_some.mpr fun p hq => hn p hp hq)
        · exact .inl hp
      · split at h
        · exact ⟨_, by assumption, h⟩
        · cases h
        · cases h

end Sys2Proof.Machine
end

