-- ==== Sys2Proof/Machine/Assembler.lean ====
section
/-! DEFINITION. The text syntax of operations and its pseudo-operations (30_encoding.md R131, R132). It reads a listing's
line into operations or into an expected return value; the step never uses it. -/

namespace Sys2Proof.Machine

/-! ### Pseudo-operations (R132): each is shorthand for the sequence shown -/

/-- `SETUP [8 bytes]`. -/
def pseudoSetup (packet : List Byte) : List Instr := [.evTrnSetup packet, .irq]

/-- `IN0`. -/
def pseudoIn0 : List Instr := [.evTrnIn .ep0 false, .irq]

/-- `OUT0 [bytes]`. -/
def pseudoOut0 (data : List Byte) : List Instr := [.evTrnOut .ep0 false data, .irq]

/-- `BULK_OUT h=<h> [bytes]`. -/
def pseudoBulkOut (h : Bit) (data : List Byte) : List Instr := [.evTrnOut .bulk h data, .irq]

/-- `BULK_IN h=<h>`. -/
def pseudoBulkIn (h : Bit) : List Instr := [.evTrnIn .bulk h, .irq]

/-- `PUTS [b0 … bk]`. -/
def pseudoPuts (bytes : List Byte) : List Instr := bytes.map .txPut

/-! ### Tokens -/

/-- A character that only separates tokens: a space, a comma, and the braces of an expected `valid, len` pair. -/
def isSeparator (c : Char) : Bool := c == ' ' || c == ',' || c.toNat == 123 || c.toNat == 125

/-- The token under way put before the others. -/
def closeToken (word : List Char) (tokens : List (List Char)) : List (List Char) :=
  if word = [] then tokens else word.reverse :: tokens

/-- The tokens of a line, last first; `;` starts a comment; a bracket is a token of its own. -/
def tokensRev : List Char → List Char → List (List Char) → List (List Char)
  | [], word, acc => closeToken word acc
  | c :: cs, word, acc =>
    if c = ';' then closeToken word acc
    else if c = '[' ∨ c = ']' then tokensRev cs [] ([c] :: closeToken word acc)
    else if isSeparator c then tokensRev cs [] (closeToken word acc)
    else tokensRev cs (c :: word) acc

/-- The tokens of a line. -/
def tokens (line : List Char) : List (List Char) := (tokensRev line [] []).reverse

/-! ### Numbers and bytes -/

/-- The value of a hexadecimal digit. -/
def hexDigit (c : Char) : Option Nat :=
  if '0' ≤ c ∧ c ≤ '9' then some (c.toNat - 48)
  else if 'A' ≤ c ∧ c ≤ 'F' then some (c.toNat - 55)
  else if 'a' ≤ c ∧ c ≤ 'f' then some (c.toNat - 87)
  else none

/-- Digits in a base, most significant first. -/
def digits (base : Nat) : Nat → List Char → Option Nat
  | acc, [] => some acc
  | acc, c :: cs =>
    match hexDigit c with
    | some d => if d < base then digits base (acc * base + d) cs else none
    | none => none

/-- A decimal number, or a hexadecimal one after `0x`. -/
def number : List Char → Option Nat
  | [] => none
  | '0' :: 'x' :: cs => digits 16 0 cs
  | cs => digits 10 0 cs

/-- A byte as hexadecimal digits, with or without `0x`. -/
def hexByte (cs : List Char) : Option Byte :=
  match cs with
  | [] => none
  | '0' :: 'x' :: ds => (digits 16 0 ds).bind fun n => if n < 256 then some (BitVec.ofNat 8 n) else none
  | ds => (digits 16 0 ds).bind fun n => if n < 256 then some (BitVec.ofNat 8 n) else none

/-- The bytes up to the closing bracket, and nothing after it. -/
def bytesToBracket : List (List Char) → Option (List Byte)
  | [] => none
  | [[']']] => some []
  | t :: ts =>
    match hexByte t, bytesToBracket ts with
    | some b, some bs => some (b :: bs)
    | _, _ => none

/-- A bracketed list of bytes. -/
def bracketed : List (List Char) → Option (List Byte)
  | ['['] :: ts => bytesToBracket ts
  | _ => none

/-- What follows a given beginning of a token. -/
def afterText (text : List Char) (token : List Char) : Option (List Char) :=
  if token.take text.length = text then some (token.drop text.length) else none

/-- `h=<h>`. -/
def halfToken (t : List Char) : Option Bit :=
  ((afterText "h=".toList t).bind number).bind fun n => if n = 0 then some false else if n = 1 then some true else none

/-- `ep=<e>`: a number, or the name of an endpoint parameter. -/
def epToken (p : Params) (t : List Char) : Option Endpoint :=
  (afterText "ep=".toList t).bind fun e =>
    if e = "P_EP_NOTIF".toList then some .notif
    else if e = "P_EP_BULK".toList then some .bulk
    else (number e).bind fun n => if n < 16 then p.endpoint (BitVec.ofNat 4 n) else none

/-- The name of an error class (R122). -/
def className (cs : List Char) : Option (BitVec 6) :=
  if cs = "PID".toList then some 0x01#6
  else if cs = "CRC5".toList then some 0x02#6
  else if cs = "CRC16".toList then some 0x04#6
  else if cs = "BUS_TURNAROUND".toList then some 0x08#6
  else if cs = "BUS_TIMEOUT".toList then some 0x10#6
  else if cs = "DATA_TOGGLE".toList then some 0x20#6
  else none

/-- Names of error classes joined by `|`. -/
def classNames : List Char → List Char → Option (BitVec 6)
  | [], word => className word.reverse
  | '|' :: cs, word =>
    match className word.reverse, classNames cs [] with
    | some a, some b => some (a ||| b)
    | _, _ => none
  | c :: cs, word => classNames cs (c :: word)

/-- The operand of EV_ERROR: names of classes, or a hexadecimal byte of them. -/
def classesToken (t : List Char) : Option (BitVec 6) :=
  match classNames t [] with
  | some c => some c
  | none => (hexByte t).bind fun b => if b.toNat < 64 then some (b.extractLsb' 0 6) else none

/-! ### Lines -/

/-- What a line of a listing says: operations, or the expected return value of the operation before it. -/
inductive AsmLine where
  | ops (is : List Instr)
  | expect (v : Ret)
  deriving DecidableEq, Repr

/-- The operations without operands. -/
def bareOperation (name : List Char) : Option Instr :=
  if name = "EV_SE0_EXIT".toList then some .evSe0Exit
  else if name = "EV_BUS_RESET".toList then some .evBusReset
  else if name = "EV_IDLE".toList then some .evIdle
  else if name = "EV_ACTIVITY".toList then some .evActivity
  else if name = "ATTACH".toList then some .attach
  else if name = "ACQ_RX".toList then some .acqRx
  else if name = "ACQ_TX".toList then some .acqTx
  else if name = "FLUSH".toList then some .flush
  else if name = "IS_ACTIVE".toList then some .isActive
  else if name = "CS_ENTER".toList then some .csEnter
  else if name = "CS_EXIT".toList then some .csExit
  else if name = "SLEEP".toList then some .sleep
  else if name = "RESET_EXEC".toList then some .resetExec
  else if name = "IRQ".toList then some .irq
  else if name = "WATCHDOG".toList then some .watchdog
  else none

/-- The expected return value after `=>`. -/
def expectedValue : List (List Char) → Option Ret
  | [v] =>
    if v = "true".toList then some (.flag true)
    else if v = "false".toList then some (.flag false)
    else (hexByte v).map .byte
  | [v, n] =>
    if v = "true".toList then (number n).map (.acquired true)
    else if v = "false".toList then (number n).map (.acquired false)
    else none
  | _ => none

/-- The operations with operands and the pseudo-operations. -/
def operandOperation (p : Params) (name : List Char) (args : List (List Char)) : Option (List Instr) :=
  if name = "EV_ERROR".toList then
    match args with
    | [c] => (classesToken c).map fun c => [.evError c]
    | _ => none
  else if name = "EV_TRN_SETUP".toList then (bracketed args).map fun b => [.evTrnSetup b]
  else if name = "EV_TRN_OUT".toList then
    match args with
    | e :: h :: rest =>
      match epToken p e, halfToken h, bracketed rest with
      | some ep, some half, some data => some [.evTrnOut ep half data]
      | _, _, _ => none
    | _ => none
  else if name = "EV_TRN_IN".toList then
    match args with
    | [e, h] =>
      match epToken p e, halfToken h with
      | some ep, some half => some [.evTrnIn ep half]
      | _, _ => none
    | _ => none
  else if name = "RX_READ".toList then
    match args with
    | [i] => (number i).bind fun n => if n < 64 then some [.rxRead (BitVec.ofNat 6 n)] else none
    | _ => none
  else if name = "RX_TAKE".toList then
    match args with
    | [i] => (number i).bind fun n => if n ≤ 64 then some [.rxTake (BitVec.ofNat 8 n)] else none
    | _ => none
  else if name = "TX_PUT".toList then
    match args with
    | [b] => (hexByte b).map fun b => [.txPut b]
    | _ => none
  else if name = "SETUP".toList then (bracketed args).map pseudoSetup
  else if name = "IN0".toList then if args = [] then some pseudoIn0 else none
  else if name = "OUT0".toList then (bracketed args).map pseudoOut0
  else if name = "BULK_OUT".toList then
    match args with
    | h :: rest =>
      match halfToken h, bracketed rest with
      | some half, some data => some (pseudoBulkOut half data)
      | _, _ => none
    | _ => none
  else if name = "BULK_IN".toList then
    match args with
    | [h] => (halfToken h).map pseudoBulkIn
    | _ => none
  else if name = "PUTS".toList then (bracketed args).map pseudoPuts
  else none

/-- A line of a listing (R131); an empty line or a comment has no operation. -/
def assembleLine (p : Params) (line : List Char) : Option AsmLine :=
  match tokens line with
  | [] => some (.ops [])
  | name :: args =>
    if name = "=>".toList then (expectedValue args).map .expect
    else
      match bareOperation name with
      | some i => if args = [] then some (.ops [i]) else none
      | none => (operandOperation p name args).map .ops

/-- The encoding of a line's operations: each "its operation word … followed by its payload" (R131). -/
def assemble (p : Params) (line : List Char) : Option (List Image) :=
  match assembleLine p line with
  | some (.ops is) => some (is.map (encode p))
  | some (.expect _) => some []
  | none => none

end Sys2Proof.Machine
end

