-- ==== Sys2Proof/Machine/Conditions.lean ====
section
/-! DEFINITION. The conditions of 60_exceptions.md R381 that a step raises. They are an observation: "no state of the
block holds these codes, and nothing in the block reads them". -/

namespace Sys2Proof.Machine

/-- The classes of `irq.err_bits` as conditions (R381 codes 0x10-0x15). -/
def errorConditions (bits : BitVec 6) : List Condition :=
  (if bits.getLsbD 0 then [.usbErrPid] else []) ++ (if bits.getLsbD 1 then [.usbErrCrc5] else []) ++
  (if bits.getLsbD 2 then [.usbErrCrc16] else []) ++ (if bits.getLsbD 3 then [.usbErrBusTurnaround] else []) ++
  (if bits.getLsbD 4 then [.usbErrBusTimeout] else []) ++ (if bits.getLsbD 5 then [.usbErrDataToggle] else [])

/-- Whether the dispatcher answers STALL to a request of the opcode table (R202, R221). -/
def requestStalls (s : State) (i : Instr) : Bool :=
  match i with
  | .getDescriptor q => decide (descriptorAnswer q = .stall)
  | .setConfiguration q => decide (1 < (configOperand q).toNat)
  | .getInterface q => decide (getInterfaceAnswer q = .stall)
  | .setInterface q => decide (setInterfaceAnswer q = .stall)
  | .sendEncapsulatedCommand _ | .getEncapsulatedResponse _ | .setLineCoding _ | .getLineCoding _
  | .setControlLineState _ => !s.dev.configured
  | _ => false

/-- Condition 0x01: the SETUP step whose dispatch returns STALL (R381, R390). -/
def setupConditions (s : State) : List Condition :=
  match decodeSetup s.cfg s.setupPacket with
  | .ok i => if requestStalls s i then [.ep0RequestStall] else []
  | .reject _ => [.ep0RequestStall]

/-- The conditions of an IRQ step (R383). -/
def irqConditions (s : State) : List Condition :=
  if s.irq.enable && decide (s.dev.state ≠ .detached) then
    match s.interruptSource with
    | some .error => errorConditions s.irq.errBits
    | some .trn =>
      match s.irq.trn with
      | { kind := .setup, ep := .ep0, half := _ } :: _ => setupConditions s
      | _ => []
    | _ => []
  else []

/-- Conditions 0x22 and 0x23: the start of a command whose header is complete (R331, R340). -/
def beginConditions (s : State) (bytes : List Byte) : List Condition :=
  match decodeCommand bytes with
  | .ok (.unlock _ key) => if key = s.cfg.unlockKey then [] else [.cmdBadKey]
  | .ok (.setFlashWriteSequence _ n) => if 16 < n.toNat then [.cmdSeqTooLong] else []
  | _ => []

/-- Conditions 0x20 and 0x21: `start_command` (R346). -/
def startConditions (s : State) (b : Byte) : List Condition :=
  match headerLen (commandId b) with
  | none => [.cmdInvalidId]
  | some _ => if lockRequired (commandId b) && !s.sess.unlocked then [.cmdLocked] else []

/-- The conditions of a step of the main loop's program: only where RX_TAKE delivers a command byte. -/
def mainConditions (s : State) : List Condition :=
  if s.main.asleep then []
  else
    match s.main.point with
    | .rxTake .id b => startConditions s b
    | .rxTake .header b =>
      if s.sess.hdrFill + 1 = s.sess.hdrNeed then
        beginConditions s
          (s.sess.cmd :: (s.sess.hdr.set s.sess.hdrFill b).take ((headerLen (commandId s.sess.cmd)).getD 0))
      else []
    | _ => []

/-- The conditions that the next step raises, if it ends in a next state (R381, R383). -/
def stepConditions (s : State) : List Condition :=
  match step s with
  | .next _ =>
    match s.port with
    | [] => mainConditions s
    | .mainLoop :: _ => mainConditions s
    | .line l :: _ => if decodeLine s.cfg l = .ok .irq then irqConditions s else []
  | .fault _ => []
  | .refused _ => []

end Sys2Proof.Machine
end

