-- ==== Sys2Proof/Tests/Slice0.lean ====
section
/-! SUPPORT. Small tests: ill-formed terms, words of 30_encoding.md and 95_test_vectors.md, single steps of the spec's
vectors, and for each statement with hypotheses a state and operands that meet them. -/

set_option Elab.async false

namespace Sys2Proof.Tests

open Sys2Proof.Machine Sys2Proof.Statements

/-! ### States of 95_test_vectors.md part 0 -/

/-- Nothing pending. -/
def calm : Pending := { reset := false, error := false, activity := false, idle := false }

/-- Power-on with concrete parameters, `S_PO`. -/
def sPo : State := State.powerOn vectorParams 0

/-- The state after ATTACH, `S_ATT`, with a concrete line coding. -/
def sAtt : State :=
  { usbReset sPo (List.replicate 7 0#8) with
    dev := { sPo.dev with state := .attached }
    irq := { sPo.irq with mask := 0x1B#8, enable := true }
    flashseq := { count := 0, recs := List.replicate 16 { addr := 0#16, data := 0#8, flags := 0#3 } }
    sess := { sPo.sess with hdr := List.replicate 16 0#8 }
    resetReason := 0#8
    draws := 0 }

/-- After the first bus reset, `S_DEF`. -/
def sDef : State := { sAtt with dev := { sAtt.dev with state := .default } }

/-- Configured and active, `S_E`. -/
def sE : State :=
  { sDef with
    dev := { sDef.dev with configured := true, lineState := true, address := 7#7 }
    bd := { ep0Out := armedBd 64#10 false
            ep0In := { own := .firmware, dts := true, stall := false, count := 0#10 }
            notifIn := stalledBd 0#10
            bulkOut0 := armedBd 64#10 false, bulkOut1 := armedBd 64#10 true
            bulkIn0 := { own := .firmware, dts := false, stall := false, count := 0#10 }
            bulkIn1 := { own := .firmware, dts := true, stall := false, count := 0#10 } }
    pipeArmed := true
    rx := { busy := { even := true, odd := true }, next := false, eng := false, slice := none }
    main := { asleep := false, point := .top } }

/-- Suspended, as after EV_IDLE and IRQ from `S_E` (V40-10). -/
def sSusp : State :=
  { sE with
    dev := { sE.dev with suspended := true, clock := .lowPower }
    irq := { sE.irq with mask := 0x04#8, savedMask := 0x1B#8 } }

/-- The next state of a result. -/
def next? : Result → Option State
  | .next s => some s
  | _ => none

/-- The fault of a result. -/
def fault? : Result → Option Fault
  | .fault x => some x
  | _ => none

/-- `s` with completions queued and SETUP bytes in `buf[0][OUT]`. -/
def queued (s : State) (bytes : List Byte) (records : List Completion) : State :=
  { s.writeBufs .ep0Out 0 bytes with irq := { s.irq with trn := records } }

/-- A SETUP record. -/
def setupRec : Completion := { kind := .setup, ep := .ep0, half := false }

/-- SETUP fields with a wValue, a wIndex and a wLength. -/
def fields (v x n : Word) : SetupFields := { dirIn := false, recipient := 0#5, wValue := v, wIndex := x, wLength := n }

/-! ### Ill-formed terms -/

theorem test_wf_error_without_class : (Instr.evError 0#6).wellFormed = false := by decide
theorem test_wf_setup_of_seven_bytes : (Instr.evTrnSetup (List.replicate 7 0#8)).wellFormed = false := by decide
theorem test_wf_out_half_of_ep0 : (Instr.evTrnOut .ep0 true []).wellFormed = false := by decide
theorem test_wf_out_of_65_bytes : (Instr.evTrnOut .bulk false (List.replicate 65 0#8)).wellFormed = false := by decide
theorem test_wf_in_half_of_ep0 : (Instr.evTrnIn .ep0 true).wellFormed = false := by decide
theorem test_wf_take_65 : (Instr.rxTake 65#8).wellFormed = false := by decide
theorem test_wf_ping_of_15 : (Instr.ping 0#3 (List.replicate 15 0#8)).wellFormed = false := by decide
theorem test_wf_key_of_17 : (Instr.unlock 0#3 (List.replicate 17 0#8)).wellFormed = false := by decide

/-! ### Words (30_encoding.md R119, R121, R123; V30-W) -/

theorem test_decode_event_words :
    decodeLine vectorParams ⟨0x0100#16, []⟩ = .ok .evSe0Exit ∧
    decodeLine vectorParams ⟨0x0200#16, []⟩ = .ok .evBusReset ∧
    decodeLine vectorParams ⟨0x0300#16, []⟩ = .ok .evIdle ∧
    decodeLine vectorParams ⟨0x0400#16, []⟩ = .ok .evActivity ∧
    decodeLine vectorParams ⟨0x053F#16, []⟩ = .ok (.evError 0b111111#6) ∧
    decodeLine vectorParams ⟨0x0600#16, [0x80#8, 0x06#8, 0#8, 1#8, 0#8, 0#8, 0x12#8, 0#8]⟩ =
      .ok (.evTrnSetup [0x80#8, 0x06#8, 0#8, 1#8, 0#8, 0#8, 0x12#8, 0#8]) ∧
    decodeLine vectorParams ⟨0x0700#16, [0#8]⟩ = .ok (.evTrnOut .ep0 false []) ∧
    decodeLine vectorParams ⟨0x0721#16, [1#8, 4#8]⟩ = .ok (.evTrnOut .bulk true [4#8]) ∧
    decodeLine vectorParams ⟨0x0710#16, [0#8]⟩ = .ok (.evTrnOut .notif false []) ∧
    decodeLine vectorParams ⟨0x0800#16, []⟩ = .ok (.evTrnIn .ep0 false) ∧
    decodeLine vectorParams ⟨0x0821#16, []⟩ = .ok (.evTrnIn .bulk true) := by decide

theorem test_decode_firmware_words :
    decodeLine vectorParams ⟨0x1000#16, []⟩ = .ok .attach ∧
    decodeLine vectorParams ⟨0x1100#16, []⟩ = .ok .acqRx ∧
    decodeLine vectorParams ⟨0x123F#16, []⟩ = .ok (.rxRead 63#6) ∧
    decodeLine vectorParams ⟨0x1340#16, []⟩ = .ok (.rxTake 64#8) ∧
    decodeLine vectorParams ⟨0x1400#16, []⟩ = .ok .acqTx ∧
    decodeLine vectorParams ⟨0x15FF#16, []⟩ = .ok (.txPut 0xFF#8) ∧
    decodeLine vectorParams ⟨0x1600#16, []⟩ = .ok .flush ∧
    decodeLine vectorParams ⟨0x1700#16, []⟩ = .ok .isActive ∧
    decodeLine vectorParams ⟨0x1800#16, []⟩ = .ok .csEnter ∧
    decodeLine vectorParams ⟨0x1900#16, []⟩ = .ok .csExit ∧
    decodeLine vectorParams ⟨0x1A00#16, []⟩ = .ok .sleep ∧
    decodeLine vectorParams ⟨0x1B00#16, []⟩ = .ok .resetExec ∧
    decodeLine vectorParams ⟨0x2000#16, []⟩ = .ok .irq ∧
    decodeLine vectorParams ⟨0x2100#16, []⟩ = .ok .watchdog := by decide

theorem test_refused_words :
    decodeLine vectorParams ⟨0x0000#16, []⟩ = .reject .reservedKind ∧
    decodeLine vectorParams ⟨0x0101#16, []⟩ = .reject .nonZeroArgument ∧
    decodeLine vectorParams ⟨0x0500#16, []⟩ = .reject .noErrorClass ∧
    decodeLine vectorParams ⟨0x0540#16, []⟩ = .reject .nonZeroArgument ∧
    decodeLine vectorParams ⟨0x0610#16, List.replicate 8 0#8⟩ = .reject .badEndpoint ∧
    decodeLine vectorParams ⟨0x0722#16, [0#8]⟩ = .reject .nonZeroArgument ∧
    decodeLine vectorParams ⟨0x0730#16, [0#8]⟩ = .reject .badEndpoint ∧
    decodeLine vectorParams ⟨0x0701#16, [0#8]⟩ = .reject .badHalf ∧
    decodeLine vectorParams ⟨0x0720#16, [2#8, 1#8]⟩ = .reject .badPayload ∧
    decodeLine vectorParams ⟨0x1240#16, []⟩ = .reject .indexTooLarge ∧
    decodeLine vectorParams ⟨0x1341#16, []⟩ = .reject .countTooLarge ∧
    decodeLine vectorParams ⟨0x2200#16, []⟩ = .reject .reservedKind ∧
    decodeLine vectorParams ⟨0x3000#16, []⟩ = .reject .reservedGroup := by decide

/-! ### SETUP packets (30_encoding.md R111-R117; V30-S) -/

theorem test_decode_standard_packets :
    decodeSetup vectorParams [0x82#8, 0#8, 0#8, 0#8, 0x81#8, 0#8, 2#8, 0#8] =
      .ok (.getStatus { dirIn := true, recipient := 2#5, wValue := 0#16, wIndex := 0x0081#16, wLength := 2#16 }) ∧
    decodeSetup vectorParams [0#8, 0x05#8, 0x87#8, 0#8, 0#8, 0#8, 0#8, 0#8] =
      .ok (.setAddress (fields 0x0087#16 0#16 0#16)) ∧
    decodeSetup vectorParams [0#8, 0x06#8, 2#8, 3#8, 9#8, 4#8, 0xFF#8, 0#8] =
      .ok (.getDescriptor (fields 0x0302#16 0x0409#16 255#16)) ∧
    decodeSetup vectorParams [0#8, 0x08#8, 0#8, 0#8, 0#8, 0#8, 1#8, 0#8] =
      .ok (.getConfiguration (fields 0#16 0#16 1#16)) ∧
    decodeSetup vectorParams [0#8, 0x09#8, 1#8, 0#8, 0#8, 0#8, 0#8, 0#8] =
      .ok (.setConfiguration (fields 1#16 0#16 0#16)) ∧
    decodeSetup vectorParams [0#8, 0x0A#8, 0#8, 0#8, 1#8, 0#8, 1#8, 0#8] =
      .ok (.getInterface (fields 0#16 1#16 1#16)) ∧
    decodeSetup vectorParams [0#8, 0x0B#8, 0#8, 0#8, 1#8, 0#8, 0#8, 0#8] =
      .ok (.setInterface (fields 0#16 1#16 0#16)) ∧
    decodeSetup vectorParams [0#8, 0x01#8, 0#8, 0#8, 0#8, 0#8, 0#8, 0#8] = .reject .unmatchedRequest ∧
    decodeSetup vectorParams [0xE0#8, 0x06#8, 0#8, 1#8, 0#8, 0#8, 0x12#8, 0#8] = .reject .unmatchedRequest := by
  decide

theorem test_decode_class_and_vendor_packets :
    decodeSetup vectorParams [0x20#8, 0x00#8, 0#8, 0#8, 0#8, 0#8, 4#8, 0#8] =
      .ok (.sendEncapsulatedCommand (fields 0#16 0#16 4#16)) ∧
    decodeSetup vectorParams [0x20#8, 0x01#8, 0#8, 0#8, 0#8, 0#8, 4#8, 0#8] =
      .ok (.getEncapsulatedResponse (fields 0#16 0#16 4#16)) ∧
    decodeSetup vectorParams [0x20#8, 0x20#8, 0#8, 0#8, 0#8, 0#8, 7#8, 0#8] =
      .ok (.setLineCoding (fields 0#16 0#16 7#16)) ∧
    decodeSetup vectorParams [0x20#8, 0x21#8, 0#8, 0#8, 0#8, 0#8, 7#8, 0#8] =
      .ok (.getLineCoding (fields 0#16 0#16 7#16)) ∧
    decodeSetup vectorParams [0x20#8, 0x22#8, 3#8, 0#8, 0#8, 0#8, 0#8, 0#8] =
      .ok (.setControlLineState (fields 3#16 0#16 0#16)) ∧
    decodeSetup vectorParams [0x40#8, 0x52#8, 0x5A#8, 0#8, 0#8, 0#8, 0#8, 0#8] =
      .ok (.vendorReset (fields 0x005A#16 0#16 0#16)) ∧
    decodeSetup vectorParams [0x40#8, 0x49#8, 0#8, 0#8, 0#8, 0#8, 5#8, 0#8] =
      .ok (.vendorIdentify (fields 0#16 0#16 5#16)) := by decide

/-! ### Commands (30_encoding.md R127-R129; V30-C) -/

theorem test_decode_commands :
    decodeCommand (0xE1#8 :: List.replicate 16 3#8) = .ok (.ping 7#3 (List.replicate 16 3#8)) ∧
    decodeCommand (0x02#8 :: List.replicate 16 0x4B#8) = .ok (.unlock 0#3 (List.replicate 16 0x4B#8)) ∧
    decodeCommand [0x03#8, 7#8] = .ok (.setMode 0#3 7#8) ∧
    decodeCommand [0x04#8] = .ok (.getMode 0#3) ∧
    decodeCommand [0x85#8, 0x00#8, 0xA0#8] = .ok (.read 4#3 0xA000#16) ∧
    decodeCommand [0xC6#8, 0xFE#8, 0#8, 4#8, 0#8] = .ok (.readBurst 6#3 0x00FE#16 4#16) ∧
    decodeCommand [0x47#8, 0x00#8, 0x20#8, 5#8] = .ok (.write 2#3 0x2000#16 5#8) ∧
    decodeCommand [0x08#8, 0x00#8, 0xA0#8, 3#8, 0#8] = .ok (.writeBurst 0#3 0xA000#16 3#16) ∧
    decodeCommand [0x09#8, 0x00#8, 0x40#8, 0x80#8] = .ok (.pollFlashData 0#3 0x4000#16 0x80#8) ∧
    decodeCommand [0x8A#8, 1#8] = .ok (.setFlashWriteSequence 4#3 1#8) ∧
    decodeCommand [0x0B#8, 0x00#8, 0x40#8, 3#8, 0#8] = .ok (.flashBurst 0#3 0x4000#16 3#16) ∧
    decodeCommand [0x1D#8] = .ok (.diagnostics 0#3) ∧
    decodeCommand [0x1E#8, 0x42#8] = .ok (.reset 0#3 0x42#8) ∧
    decodeCommand [0xFF#8] = .ok (.identify 7#3) ∧
    decodeCommand [0x0C#8] = .reject .unknownCommand ∧
    decodeCommand [0x20#8] = .reject .unknownCommand := by decide

/-! ### Single steps of the spec's vectors -/

/-- V40-1. -/
theorem test_nothing_while_detached :
    (next? (exec .evSe0Exit sPo)).map State.ret = some .notEnabled ∧
    (next? (exec .irq sPo)).map State.ret = some .notEnabled := by decide

/-- V40-2. -/
theorem test_se0_exit : (next? (exec .evSe0Exit sAtt)).map (·.dev.state) = some .powered := by decide

/-- V40-9: a SETUP is not accepted while RESET is pending. -/
theorem test_reset_shuts_setup_out :
    (next? (exec (.evTrnSetup (List.replicate 8 0#8)) { sE with irq := { sE.irq with pending := { calm with reset := true } } })).map
      State.ret = some .notEnabled := by decide

/-- V40-13: a bus reset while suspended makes ACTIVITY pending too. -/
theorem test_bus_reset_while_suspended :
    (next? (exec .evBusReset sSusp)).map (·.irq.pending) = some { calm with reset := true, activity := true } := by
  decide

/-- V40-11. -/
theorem test_idle_while_suspended : (next? (exec .evIdle sSusp)).map State.ret = some .notEnabled := by decide

/-- V40-12. -/
theorem test_activity_resumes :
    (next? (exec .irq { sSusp with irq := { sSusp.irq with pending := { calm with activity := true } } })).map
      (fun t => (t.irq.mask, t.dev.suspended, t.dev.clock, t.active)) = some (0x1B#8, false, .normal, true) := by decide

/-- V40-18: the counter below its maximum counts up to it. -/
theorem test_error_counts :
    (next? (exec .irq { sE with
        irq := { sE.irq with errBits := 2#6, pending := { calm with error := true } }
        diag := { sE.diag with crc5 := { count := 254, sticky := false } } })).map (·.diag.crc5) =
      some { count := 255, sticky := true } := by decide

/-- V40-19: the other half is not the engine's turn. -/
theorem test_out_of_the_other_half :
    (next? (exec (.evTrnOut .bulk true [0#8]) sE)).map State.ret = some .notEnabled ∧
    (next? (exec (.evTrnOut .bulk false [0#8]) sE)).map (·.sie.ppbiOut) = some true := by decide

/-- V40-20: the descriptor is FIRMWARE-owned. -/
theorem test_in_of_an_unarmed_half : (next? (exec (.evTrnIn .bulk false) sE)).map State.ret = some .notEnabled := by
  decide

/-- V41-1: GET_DESCRIPTOR of the device, `bd0i = C0/12`, `bd0o = C0/40`. -/
theorem test_get_descriptor :
    (next? (exec (.getDescriptor (fields 0x0100#16 0#16 64#16)) sDef)).map
      (fun t => (t.bd.ep0In.stat, t.bd.ep0In.cnt, t.bd.ep0Out.stat, t.bd.ep0Out.cnt, t.ctl.inDone)) =
      some (0xC0#8, 0x12#8, 0xC0#8, 0x40#8, true) := by decide

/-- P1: the address is deferred, and applied by the next endpoint-0 IN completion. -/
theorem test_set_address_is_deferred :
    (next? (exec (.setAddress (fields 7#16 0#16 0#16)) sDef)).map (fun t => (t.dev.address, t.ctl.pendingAddress)) =
      some (0#7, some 7#7) := by decide

/-- V42-19: reconfiguration under traffic. -/
theorem test_reconfiguration_in_flight :
    fault? (exec (.setConfiguration (fields 1#16 0#16 0#16))
      (queued sE [] [{ kind := .out, ep := .bulk, half := false }])) = some .reconfigInFlight := by decide

/-- R211, R285: `configured` and the armed halves after SET_CONFIGURATION 1. -/
theorem test_set_configuration_arms_the_halves :
    (next? (exec (.setConfiguration (fields 1#16 0#16 0#16)) sDef)).map
      (fun t => (t.dev.configured, t.bd.bulkOut0.stat, t.bd.bulkOut1.stat, t.bd.bulkIn1.stat)) =
      some (true, 0x80#8, 0xC0#8, 0x40#8) := by decide

/-- R204: a class request before configuration stalls, `bd0i = 84/00`, `bd0o = 84/40`. -/
theorem test_class_request_unconfigured :
    (next? (exec (.setLineCoding (fields 0#16 0#16 7#16)) sDef)).map
      (fun t => (t.bd.ep0In.stat, t.bd.ep0In.cnt, t.bd.ep0Out.stat, t.bd.ep0Out.cnt)) =
      some (0x84#8, 0x00#8, 0x84#8, 0x40#8) := by decide

/-- P2: the received half is exposed. -/
theorem test_acq_rx :
    (next? (exec .acqRx { sE with
        bd := { sE.bd with bulkOut0 := { own := .firmware, dts := false, stall := false, count := 3#10 } }
        rx := { sE.rx with busy := { even := false, odd := true }, eng := true } })).map State.ret =
      some (.acquired true 3) := by decide

/-- V42-4, R273, R274: the slice {0, 0, 3} of P2. -/
theorem test_take_and_read :
    (next? (exec (.rxTake 2#8) { sE with rx := { sE.rx with slice := some ⟨false, 0, 3⟩ } })).map (·.rx.slice) =
      some (some ⟨false, 2, 1⟩) ∧
    fault? (exec (.rxRead 3#6) { sE with rx := { sE.rx with slice := some ⟨false, 0, 3⟩ } }) =
      some (.sliceRange 3 3) ∧
    fault? (exec (.rxRead 0#6) sE) = some .noSlice := by decide

/-- R278, its example: `TX_PUT 0x41` into a fresh slice. -/
theorem test_tx_put :
    (next? (exec (.txPut 0x41#8) { sE with tx := { sE.tx with slice := some ⟨false, 0, 64⟩ } })).map
      (fun t => (t.tx.slice, t.readBuf (.bulkIn false) 0)) = some (some ⟨false, 1, 63⟩, 0x41#8) := by decide

/-- P3: a packet of exactly 64 bytes owes a zero-length one; `bi0 = 80/40`, and half 1 is acquired. -/
theorem test_flush_of_64_bytes :
    (next? (exec .flush { sE with tx := { sE.tx with slice := some ⟨false, 64, 0⟩ } })).map
      (fun t => (t.ret, t.bd.bulkIn0.stat, t.bd.bulkIn0.cnt, t.tx.zlpOwed, t.tx.slice)) =
      some (.flag false, 0x80#8, 0x40#8, true, some ⟨true, 0, 64⟩) := by decide

/-- V42-21. -/
theorem test_is_active :
    (next? (exec .isActive sE)).map State.ret = some (.flag true) ∧
    (next? (exec .isActive sDef)).map State.ret = some (.flag false) := by decide

/-- V42-22: the fifth operation faults. -/
theorem test_cs_exit_unbalanced : fault? (exec .csExit sE) = some .csUnbalanced := by decide

/-- V42-20: the second ATTACH has no effect. -/
theorem test_attach_twice : (next? (exec .attach sAtt)).map (·.dev.state) = some .attached := by decide

/-- V42-24, V42-25. -/
theorem test_sleep :
    (next? (exec .sleep sE)).map (·.main.asleep) = some false ∧
    (next? (exec .sleep sSusp)).map (·.main.asleep) = some true := by decide

/-- V42-29, V70-3: the persisted byte survives, the device is detached. -/
theorem test_device_resets :
    (next? (exec .resetExec { sE with dev := { sE.dev with pendingReset := true }, resetReason := 0x5A#8 })).map
      (fun t => (t.resetReason, t.dev.state, t.irq.enable, t.dev.pendingReset)) = some (0x5A#8, .detached, false, false) ∧
    (next? (exec .watchdog { sE with
        sess := { sE.sess with unlocked := true, poll := some ⟨0#16, true, false⟩ }, resetReason := 0x5A#8 })).map
      (fun t => (t.resetReason, t.dev.state, t.sess.unlocked)) = some (0x5A#8, .detached, false) := by decide

/-- V43-5, V43-19: the masked mode and the alternate strobe. -/
theorem test_set_mode_and_write :
    (next? (exec (.setMode 0#3 7#8) { sE with sess := { sE.sess with unlocked := true } })).map
      (fun t => (t.sess.mode, t.busTrace)) = some (3#8, [.mode 3#8]) ∧
    (next? (exec (.write 2#3 0x2000#16 5#8) { sE with sess := { sE.sess with unlocked := true } })).map State.busTrace =
      some [.write 0x2000#16 5#8 false true] := by decide

/-- V43-6: READ answers the oracle's byte. -/
theorem test_read :
    (next? (exec (.read 4#3 0xA000#16) { sE with
        sess := { sE.sess with unlocked := true }, cart := [0x99#8] })).map (fun t => (t.busTrace, t.sess.out)) =
      some ([.read 0xA000#16 true false], [0x99#8]) := by decide

/-- V43-11: too many records leave the stored sequence. -/
theorem test_write_sequence_too_long :
    (next? (exec (.setFlashWriteSequence 0#3 17#8) { sE with
        sess := { sE.sess with unlocked := true }, flashseq := { sE.flashseq with count := 2 } })).map
      (fun t => (t.flashseq.count, t.sess.phase)) = some (2, .awaitId) := by decide

/-- V43-2, V43-3: the key unlocks, another one does not. -/
theorem test_unlock :
    (next? (exec (.unlock 0#3 (List.replicate 16 0x4B#8)) sE)).map (·.sess.unlocked) = some true ∧
    (next? (exec (.unlock 0#3 (List.replicate 16 0x4C#8)) sE)).map (·.sess.unlocked) = some false := by decide

/-- V43-13, V43-1, V43-14. -/
theorem test_identify_ping_and_lock :
    (next? (exec (.identify 7#3) sE)).map (·.sess.out) = some [0x99#8, 0x02#8, 0x01#8, 0x03#8, 0x01#8] ∧
    (next? (exec (.ping 7#3 (List.replicate 16 5#8)) sE)).map (·.sess.out) = some (List.replicate 16 5#8) ∧
    (next? (exec (.getMode 0#3) sE)).map (fun t => (t.sess.phase, t.busTrace)) = some (.awaitId, []) := by decide

/-- V43-20: the reset is staged. -/
theorem test_reset_is_staged :
    (next? (exec (.reset 0#3 0x42#8) { sE with sess := { sE.sess with unlocked := true } })).map
      (fun t => (t.resetReason, t.dev.pendingReset, t.dev.state)) = some (0x42#8, true, .default) := by decide

/-- R43, R206: the OUT stage of SET_LINE_CODING names the line coding as its source. -/
theorem test_set_line_coding_source :
    (next? (exec (.setLineCoding (fields 0#16 0#16 7#16)) sE)).map (fun t => (t.ctl.srcKind, t.ctl.src, t.ctl.dest)) =
      some (.ram, .lc, some .lc) := by decide

/-- R75: the bus reset's column makes the header bytes zero. -/
theorem test_bus_reset_clears_header :
    (next? (exec .irq { sE with
      irq := { sE.irq with pending := { calm with reset := true } }
      sess := { sE.sess with hdr := List.replicate 16 0x4B#8 } })).map (·.sess.hdr) = some (List.replicate 16 0#8) := by
  decide

/-! ### Hypotheses met

One theorem for each statement with hypotheses: a state and operands that meet them, clause by clause. -/

/-- An armed endpoint-0 IN descriptor. -/
def sIn (n : BitVec 10) : State := { sE with bd := { sE.bd with ep0In := armedBd n true } }

/-- A state with a source pending. -/
def pend (s : State) (v : Pending) : State := { s with irq := { s.irq with pending := v } }

/-- A state with the control group replaced. -/
def withCtl (s : State) (c : Ctl) : State := { s with ctl := c }

/-- A state with the receive group replaced. -/
def withRx (s : State) (r : Rx) : State := { s with rx := r }

/-- A state with the transmit group replaced. -/
def withTx (s : State) (x : Tx) : State := { s with tx := x }

/-- A state at a command boundary, unlocked. -/
def sU : State := { sE with sess := { sE.sess with unlocked := true } }

/-- An endpoint-0 OUT completion, an endpoint-0 IN completion and the bulk completions of half 0. -/
def out0 : Completion := { kind := .out, ep := .ep0, half := false }
def in0 : Completion := { kind := .inp, ep := .ep0, half := false }
def bulkOut0 : Completion := { kind := .out, ep := .bulk, half := false }
def bulkIn0 : Completion := { kind := .inp, ep := .bulk, half := false }

/-- A main-loop turn at the head of the port, with the program at a place. -/
def turn (s : State) (p : MainPoint) : State :=
  { s with port := [.mainLoop], main := { asleep := false, point := p } }

theorem witness_DecodeOfEncodeIsTheOperation :
    vectorParams.legal = true ∧ (Instr.evError 0x3F#6).wellFormed = true ∧
    (Instr.evTrnOut .bulk true (List.replicate 64 1#8)).wellFormed = true ∧ (Instr.rxTake 64#8).wellFormed = true := by
  decide

theorem witness_DecodedImageIsTheEncoding :
    decode vectorParams (.line ⟨0x0720#16, [1#8, 9#8]⟩) = .ok (.evTrnOut .bulk false [9#8]) := by decide

theorem witness_RefusedWordsAreThoseOfTheTables :
    refusedWord vectorParams 0x0900#16 ∧ refusedWord vectorParams 0x0730#16 ∧ refusedWord vectorParams 0x1341#16 ∧
    refusedWord vectorParams 0x2200#16 ∧ refusedWord vectorParams 0x3000#16 ∧ ¬ refusedWord vectorParams 0x0721#16 ∧
    ¬ refusedWord vectorParams 0x1340#16 := by
  refine ⟨?_, ?_, ?_, ?_, ?_, ?_, ?_⟩ <;> (unfold refusedWord; decide)

theorem witness_DirectionAndRecipientBitsDoNotMatter :
    (0x80#8).extractLsb' 5 2 = (0x1F#8).extractLsb' 5 2 ∧
    decodeSetup vectorParams (0x80#8 :: [0x09#8, 1#8, 0#8, 0#8, 0#8, 0#8, 0#8]) =
      .ok (.setConfiguration { dirIn := true, recipient := 0#5, wValue := 1#16, wIndex := 0#16, wLength := 0#16 }) := by
  decide

theorem witness_StepRunsTheDecodedLine :
    decodeLine sE.cfg ⟨0x1700#16, []⟩ = .ok .isActive ∧
    decodeLine sE.cfg ⟨0x3000#16, []⟩ = .reject .reservedGroup := by decide

theorem witness_IrqRunsTheDecodedRequest :
    irqTakes (queued sE [0#8, 5#8, 7#8, 0#8, 0#8, 0#8, 0#8, 0#8] [setupRec]) .trn ∧
    decodeSetup vectorParams ((List.range 8).map fun k =>
      (queued sE [0#8, 5#8, 7#8, 0#8, 0#8, 0#8, 0#8, 0#8] [setupRec]).readBuf .ep0Out k) =
      .ok (.setAddress (fields 7#16 0#16 0#16)) := by
  refine ⟨?_, by decide⟩
  unfold irqTakes taken; decide

/-- The last header byte of SET_MODE, then the id byte of IDENTIFY (locked) and of GET_MODE (unlocked). -/
theorem witness_MainLoopRunsTheDecodedCommand :
    let h : State :=
      { turn sU (.rxTake .header 7#8) with
        rx := { sU.rx with slice := some ⟨false, 0, 1⟩ }
        sess := { sU.sess with phase := .header, cmd := 0x03#8, hdrNeed := 1 } }
    let d : State := { turn sE (.rxTake .id 0x1F#8) with rx := { sE.rx with slice := some ⟨false, 63, 1⟩ } }
    (h.port = [.mainLoop] ∧ h.main.asleep = false ∧ h.rx.slice = some ⟨false, 0, 1⟩ ∧
      h.main.point = .rxTake .header 7#8 ∧ h.sess.hdrFill + 1 = h.sess.hdrNeed ∧
      headerLen (commandId h.sess.cmd) = some 1 ∧
      decodeCommand (h.sess.cmd :: (h.sess.hdr.set h.sess.hdrFill 7#8).take 1) = .ok (.setMode 0#3 7#8)) ∧
    (d.port = [.mainLoop] ∧ d.main.asleep = false ∧ d.rx.slice = some ⟨false, 63, 1⟩ ∧
      d.main.point = .rxTake .id 0x1F#8 ∧ headerLen (commandId 0x1F#8) = some 0 ∧
      lockRequired (commandId 0x1F#8) = false ∧ decodeCommand [0x1F#8] = .ok (.identify 0#3)) ∧
    (headerLen (commandId 0x04#8) = some 0 ∧ sU.sess.unlocked = true ∧
      decodeCommand [0x04#8] = .ok (.getMode 0#3)) := by decide

/-- A slice of one byte at the end of its half. -/
def lastByte : RxSlice := ⟨false, 63, 1⟩

/-- A main-loop turn at a place, with one byte to take and a transmit slice with one place left. -/
def byteTurn (s : State) (p : MainPoint) : State :=
  { turn s p with
    rx := { s.rx with slice := some lastByte }, tx := { s.tx with slice := some ⟨false, 63, 1⟩ } }

/-- Each clause's own hypotheses: the held turn; a fault outside a poll; IS_ACTIVE without a poll, answering true and
false; a reset staged and none; a byte to read; the id bytes that are discarded (0x00 of no command, 0x03 locked) and one
that opens a header (0x01, PING); a header byte that is not the last; a byte to send. -/
theorem witness_MainLoopIssuesOneCallPerStep :
    (turn sE .flush).port = [.mainLoop] ∧ (turn sE .flush).main.asleep = false ∧ sE.port = [] ∧
    ({ sSusp with main := { asleep := true, point := .top } }).main.asleep = true ∧
    fault? (exec (callAt (.rxRead .id)) { turn sE (.rxRead .id) with port := [] }) = some .noSlice ∧
    (sE.sess.poll = none ∧ sE.dev.configured = true ∧ sE.dev.suspended = false ∧ sE.dev.lineState = true ∧
      sE.dev.pendingReset = false ∧ sSusp.dev.suspended = true) ∧
    ({ sE with dev := { sE.dev with pendingReset := true } }).dev.pendingReset = true ∧
    (byteTurn sE (.rxRead .id)).rx.slice = some lastByte ∧ 1 ≤ lastByte.len ∧ lastByte.off + lastByte.len ≤ 64 ∧
    headerLen (commandId 0x00#8) = none ∧ (lockRequired (commandId 0x03#8) = true ∧ sE.sess.unlocked = false) ∧
    (headerLen (commandId 0x01#8) = some 16 ∧ lockRequired (commandId 0x01#8) = false) ∧
    ({ sE.sess with hdrNeed := 16 }).hdrFill + 1 ≠ ({ sE.sess with hdrNeed := 16 }).hdrNeed ∧
    (next? (exec (.txPut 7#8) (byteTurn sE (.emitPut 7#8)))).isSome = true := by decide

theorem witness_Se0ExitPowersAnAttachedDevice : sAtt.dev.state = .attached ∧ sE.dev.state ≠ .attached := by decide

theorem witness_PendingActsSetTheirSource :
    sE.dev.state ≠ .detached ∧ sE.dev.suspended = false ∧ sSusp.dev.suspended = true ∧
    sSusp.irq.pending.activity = false ∧ (0x20#6 ≠ 0#6) := by decide

theorem witness_StepsThatAreNotEnabledChangeNothing :
    sPo.irq.enable = false ∧ sPo.dev.state = .detached ∧ (∀ src, ¬ taken sE src) ∧
    sSusp.dev.suspended = true ∧ sAtt.dev.state ≠ .default ∧
    (pend sE { calm with reset := true }).irq.pending.reset = true ∧
    (queued sE [] [out0]).bd.ep0In.own = .firmware ∧ sDef.bd.ep0Out.stall = true ∧
    (List.replicate 65 0#8).length > sE.cfg.ep0Size.bytes ∧ (true ≠ sE.sie.ppbiOut) ∧
    (sE.desc (.bulkIn false)).own = .firmware := by
  refine ⟨by decide, by decide, fun src => by cases src <;> (unfold taken; decide), ?_⟩
  decide

theorem witness_SetupActStoresItsPacket :
    (List.replicate 8 0x80#8).length = 8 ∧ sDef.dev.state = .default ∧ sDef.irq.pending.reset = false ∧
    sDef.bd.ep0Out.own = .engine := by decide

theorem witness_OutActsStoreTheirBytes :
    sE.dev.state = .default ∧ sE.irq.pending.reset = false ∧ sE.bd.ep0Out.own = .engine ∧
    sE.bd.ep0Out.stall = false ∧ (List.replicate 64 1#8).length ≤ sE.cfg.ep0Size.bytes ∧
    (false = sE.sie.ppbiOut) ∧ (sE.desc (.bulkOut false)).own = .engine ∧
    (sE.desc (.bulkOut false)).stall = false := by decide

theorem witness_InActsPutThePacketOnTheWire :
    (sIn 64#10).bd.ep0In.own = .engine ∧ (sIn 64#10).bd.ep0In.stall = false ∧
    (sIn 64#10).bd.ep0In.count.toNat ≤ (sIn 64#10).cfg.ep0Size.bytes ∧ (sIn 0#10).bd.ep0In.count.toNat = 0 ∧
    ({ sE with bd := sE.bd.put (.bulkIn false) (armedBd 64#10 false) }).desc (.bulkIn false) = armedBd 64#10 false ∧
    sE.sie.ppbiIn = false := by decide

theorem witness_ResetStepInitialisesTheBlock : irqTakes (pend sE { calm with reset := true, idle := true }) .reset := by
  unfold irqTakes taken; decide

theorem witness_IdleStepSuspendsAndActivityStepResumes :
    irqTakes (pend sE { calm with idle := true, error := true }) .idle ∧
    irqTakes (pend sSusp { calm with activity := true, reset := true }) .activity := by
  constructor <;> (unfold irqTakes taken; decide)

theorem witness_ErrorStepCountsEachPendingClass :
    irqTakes { pend sE { calm with error := true } with diag := { sE.diag with pid := { count := 255, sticky := true } } }
      .error ∧ (2 ^ sE.cfg.errCtrBits - 1 ≤ 255) ∧ (0 < 2 ^ sE.cfg.errCtrBits - 1) := by
  refine ⟨?_, by decide⟩
  unfold irqTakes taken; decide

theorem witness_BulkCompletionsFreeTheExpectedHalf :
    let b (armed : Bool) (e : Completion) (eng busy : Bool) : State :=
      { queued sE [] [e] with
        pipeArmed := armed
        rx := { sE.rx with busy := { even := busy, odd := busy }, eng := eng }
        tx := { sE.tx with busy := { even := busy, odd := busy }, eng := eng } }
    (∀ e ∈ [bulkOut0, bulkIn0], ∀ armed ∈ [true, false], ∀ eng ∈ [true, false], ∀ busy ∈ [true, false],
      irqTakes (b armed e eng busy) .trn) ∧
    (b true bulkOut0 false true).rx.busy.get false = true ∧ (b true bulkIn0 false true).tx.busy.get false = true ∧
    (b false bulkOut0 false true).pipeArmed = false ∧ (b true bulkOut0 true true).rx.eng ≠ false ∧
    (b true bulkIn0 true true).tx.eng ≠ false ∧ (b true bulkOut0 false false).rx.busy.get false = false ∧
    (b true bulkIn0 false false).tx.busy.get false = false := by
  refine ⟨?_, by decide⟩
  unfold irqTakes taken; decide

theorem witness_InCompletionSendsOnOrAppliesTheAddress :
    irqTakes (withCtl (queued sE [] [in0]) { Ctl.idle with pendingAddress := some 7#7 }) .trn ∧
    irqTakes (withCtl (queued sE [] [in0])
      { Ctl.idle with dataStage := true, dirIn := true, src := .config, remaining := 3#16, offset := 64#16 }) .trn ∧
    irqTakes (withCtl (queued sE [] [in0]) { Ctl.idle with dataStage := true, remaining := 7#16 }) .trn ∧
    irqTakes (withCtl (queued sE [] [in0]) { Ctl.idle with dataStage := true, dirIn := true, inDone := true }) .trn := by
  refine ⟨?_, ?_, ?_, ?_⟩ <;> (unfold irqTakes taken; decide)

theorem witness_OutCompletionTakesDataOrEndsTheTransfer :
    irqTakes (queued sE [] [out0]) .trn ∧ (queued sE [] [out0]).ctl.dataStage = false ∧
    irqTakes (withCtl (queued sE [] [out0]) { Ctl.idle with dataStage := true, remaining := 7#16, dest := some .lc }) .trn ∧
    sE.lc.length = 7 := by
  refine ⟨?_, by decide, ?_, by decide⟩ <;> (unfold irqTakes taken; decide)

theorem witness_SleepHoldsEveryFirmwareOperation :
    ({ sSusp with main := { asleep := true, point := .top } }).main.asleep = true := by decide

theorem witness_AcqRxExposesHalvesInTurn :
    sE.main.asleep = false ∧ sDef.pipeArmed = false ∧ sE.pipeArmed = true ∧ sE.rx.slice = none ∧
    sE.rx.busy.get sE.rx.next = true ∧
    (withRx sE { sE.rx with busy := { even := false, odd := true } }).rx.busy.get false = false ∧
    (withRx sE { sE.rx with slice := some ⟨false, 64, 0⟩, busy := { even := false, odd := false } }).rx.busy.get (!false) =
      false ∧
    (withRx sE { sE.rx with slice := some ⟨false, 64, 0⟩, busy := { even := false, odd := true } }).rx.busy.get (!false) =
      true ∧
    (withRx sE { sE.rx with slice := some ⟨false, 0, 64⟩ }).rx.slice = some ⟨false, 0, 64⟩ := by decide

theorem witness_RxReadReadsWithoutConsuming :
    sE.main.asleep = false ∧ sE.rx.slice = none ∧
    (withRx sE { sE.rx with slice := some ⟨false, 0, 64⟩ }).rx.slice = some ⟨false, 0, 64⟩ ∧ (63#6).toNat < 64 ∧
    (withRx sE { sE.rx with slice := some ⟨false, 1, 63⟩ }).rx.slice = some ⟨false, 1, 63⟩ ∧ 63 ≤ (63#6).toNat := by
  decide

theorem witness_RxTakeShortensTheSlice :
    sE.main.asleep = false ∧ (64#8).toNat ≤ 64 ∧ sE.rx.slice = none ∧
    (withRx sE { sE.rx with slice := some ⟨false, 0, 64⟩ }).rx.slice = some ⟨false, 0, 64⟩ ∧
    (withRx sE { sE.rx with slice := some ⟨false, 64, 0⟩ }).rx.slice = some ⟨false, 64, 0⟩ ∧ 0 < (1#8).toNat := by
  decide

theorem witness_AcqTxAcquiresHalvesInTurn :
    sE.main.asleep = false ∧ sDef.pipeArmed = false ∧ sE.pipeArmed = true ∧ sE.tx.slice = none ∧
    sE.tx.busy.get sE.tx.next = false ∧
    (withTx sE { sE.tx with busy := { even := true, odd := true } }).tx.busy.get false = true ∧
    (withTx sE { sE.tx with slice := some ⟨false, 64, 0⟩ }).tx.slice = some ⟨false, 64, 0⟩ ∧ (false = sE.tx.next) ∧
    (withTx sE { sE.tx with slice := some ⟨false, 63, 1⟩ }).tx.slice = some ⟨false, 63, 1⟩ := by decide

theorem witness_TxPutWritesOneByte :
    sE.main.asleep = false ∧ sE.tx.slice = none ∧
    (withTx sE { sE.tx with slice := some ⟨false, 64, 0⟩ }).tx.slice = some ⟨false, 64, 0⟩ ∧
    (withTx sE { sE.tx with slice := some ⟨true, 63, 1⟩ }).tx.slice = some ⟨true, 63, 1⟩ := by decide

theorem witness_FlushArmsTheSliceOrTheOwedPacket :
    sE.main.asleep = false ∧ sDef.pipeArmed = false ∧ sE.pipeArmed = true ∧ sE.tx.slice = none ∧
    sE.tx.zlpOwed = false ∧ sE.tx.busy.get sE.tx.next = false ∧
    (withTx sE { sE.tx with zlpOwed := true, busy := { even := true, odd := true } }).tx.busy.get false = true ∧
    (withTx sE { sE.tx with slice := some ⟨false, 0, 64⟩ }).tx.slice = some ⟨false, 0, 64⟩ ∧
    (withTx sE { sE.tx with slice := some ⟨false, 0, 64⟩, zlpOwed := true }).tx.zlpOwed = true ∧
    (withTx sE { sE.tx with slice := some ⟨false, 64, 0⟩ }).tx.slice = some ⟨false, 64, 0⟩ := by decide

theorem witness_IsActiveAnswersTheFourFlags : sE.main.asleep = false := by decide

theorem witness_CriticalSectionsSaveAndRestore :
    sE.main.asleep = false ∧ sE.irq.csStack = [] ∧
    ({ sE with irq := { sE.irq with csStack := [true], enable := false } }).irq.csStack = [true] ∧
    (next? (exec .csEnter sE)).isSome = true := by decide

theorem witness_AttachInitialisesADetachedBlock :
    sPo.main.asleep = false ∧ sPo.dev.state = .detached ∧ sE.dev.state ≠ .detached := by decide

theorem witness_SleepAndTheTwoDeviceResets :
    sE.main.asleep = false ∧ sE.dev.pendingReset = false ∧
    ({ sE with dev := { sE.dev with pendingReset := true } }).dev.pendingReset = true ∧ sE.sess.poll = none ∧
    ({ sU with sess := { sU.sess with poll := some ⟨0#16, true, false⟩ } }).sess.poll ≠ none := by decide

theorem witness_NoDataRequestsArmTheStatusIn :
    ((fields 0#16 1#16 0#16).wIndex.extractLsb' 0 8).toNat ≤ 1 ∧
    (fields 0#16 1#16 0#16).wValue.extractLsb' 0 8 = 0#8 ∧ sE.dev.configured = true := by decide

theorem witness_SetConfigurationRebuildsThePipe :
    (∀ e ∈ sDef.irq.trn, e.ep ≠ .bulk) ∧ (fields 0x0101#16 0#16 0#16).wValue.extractLsb' 0 8 = 1#8 ∧
    (fields 0x0100#16 0#16 0#16).wValue.extractLsb' 0 8 = 0#8 ∧
    (∃ e ∈ (queued sE [] [bulkIn0]).irq.trn, e.ep = .bulk) := by decide

theorem witness_InRequestsSendTheirFirstPacket :
    (fields 0x0302#16 0x0409#16 255#16).wValue = 0x0302#16 ∧ (fields 0x0100#16 0#16 0#16).wValue = 0x0100#16 ∧
    ((fields 0#16 0x0101#16 1#16).wIndex.extractLsb' 0 8).toNat ≤ 1 ∧ sE.dev.configured = true := by decide

theorem witness_OutRequestsAwaitTheirFirstPacket :
    sE.dev.configured = true ∧ (fields 0#16 0#16 0#16).wLength = 0#16 ∧ (fields 0#16 0#16 7#16).wLength ≠ 0#16 := by
  decide

theorem witness_UnmatchedRequestsStallEndpointZero :
    (fields 0x0303#16 0#16 8#16).wValue ∉ [0x0100#16, 0x0200#16, 0x0300#16, 0x0301#16, 0x0302#16] ∧
    2 ≤ ((fields 2#16 0#16 0#16).wValue.extractLsb' 0 8).toNat ∧
    2 ≤ ((fields 0#16 2#16 0#16).wIndex.extractLsb' 0 8).toNat ∧
    (fields 1#16 0#16 0#16).wValue.extractLsb' 0 8 ≠ 0#8 ∧ sDef.dev.configured = false ∧
    irqTakes (queued sE [0#8, 1#8, 0#8, 0#8, 0#8, 0#8, 0#8, 0#8] [setupRec]) .trn ∧
    decodeSetup vectorParams ((List.range 8).map fun k =>
      (queued sE [0#8, 1#8, 0#8, 0#8, 0#8, 0#8, 0#8, 0#8] [setupRec]).readBuf .ep0Out k) =
      .reject .unmatchedRequest := by
  refine ⟨by decide, by decide, by decide, by decide, by decide, ?_, by decide⟩
  unfold irqTakes taken; decide

theorem witness_DataStageSendsTheClippedSource :
    (fields 0x0200#16 0#16 255#16).wValue = 0x0200#16 ∧ sE.dev.state = .default ∧ sE.dev.suspended = false ∧
    sE.irq.enable = true ∧ sE.irq.mask = 0x1B#8 ∧ sE.irq.trn = [] ∧ sE.irq.pending = calm := by decide

theorem witness_AnsweringCommandsSetTheirOutput :
    (List.replicate 16 1#8).length = 16 ∧ begins sE 0x01#5 ∧ (List.replicate 16 0x4B#8 = sE.cfg.unlockKey) ∧
    begins sE 0x02#5 ∧ begins sE 0x1D#5 ∧ begins sE 0x1F#5 := by
  unfold begins; decide

theorem witness_ReadingCommandsAskTheBusOnce : begins sU 0x05#5 ∧ begins sU 0x04#5 := by unfold begins; decide

theorem witness_SilentCommandsActAndEnd :
    begins sU 0x07#5 ∧ begins sU 0x03#5 ∧ begins sU 0x1E#5 ∧ begins sE 0x02#5 ∧
    (List.replicate 16 0#8 ≠ sE.cfg.unlockKey) := by unfold begins; decide

theorem witness_StreamingCommandsLoadTheirCounters :
    begins sU 0x06#5 ∧ begins sU 0x08#5 ∧ begins sU 0x0B#5 ∧ begins sU 0x09#5 ∧ begins sU 0x0A#5 ∧
    (16#8).toNat ≤ 16 ∧ 16 < (17#8).toNat := by unfold begins; decide

theorem witness_LockedCommandsAreDiscarded :
    sE.sess.phase = .awaitId ∧ sE.sess.unlocked = false ∧
    ({ sU with sess := { sU.sess with phase := .exec } }).sess.phase = .exec := by decide

/-- ACQ_TX of READ_BURST with space and without; a byte to send; a byte for each of the other streams; and a stream at
its end with the device active. -/
theorem witness_StreamStepsUseOneByte :
    let s := turn sU .burstAcq
    let full := withTx s { s.tx with slice := none, busy := { even := true, odd := true } }
    s.port = [.mainLoop] ∧ s.main.asleep = false ∧ s.main.point = .burstAcq ∧
    (next? (exec .acqTx { s with port := [] })).map State.ret = some (.acquired true 64) ∧
    (next? (exec .acqTx { full with port := [] })).map State.ret = some (.acquired false 0) ∧
    ({ sU.sess with count := 1#16 }).count ≠ 0#16 ∧
    (next? (exec (.txPut 7#8) { byteTurn sU (.burstPut 7#8) with port := [] })).isSome = true ∧
    (byteTurn sU (.rxTake .writeBurst 7#8)).rx.slice = some lastByte ∧ 1 ≤ lastByte.len ∧ 0x12#8 ≠ 0xFF#8 ∧
    sU.flashseq.recs[0]? = some { addr := 0#16, data := 0#8, flags := 0#3 } ∧
    (sU.dev.configured = true ∧ sU.dev.suspended = false ∧ sU.dev.lineState = true ∧ sU.dev.pendingReset = false ∧
      sU.sess.poll = none ∧ sU.sess.out = [] ∧ sU.sess.count = 0#16) ∧
    (0x0A#8).extractLsb' 0 5 ∈ [0x06#5, 0x08#5, 0x0A#5] ∧ (0x0B#8).extractLsb' 0 5 = 0x0B#5 := by decide

/-- R335, R341: a READ_BURST step with space asks the bus and keeps the byte for the next step; FLASH_BURST at count 0
echoes two zero bytes. -/
theorem test_burst_places :
    (next? (step { turn sU .burstAcq with
      sess := { sU.sess with phase := .exec, cmd := 0x86#8, addr := 0x1234#16, count := 2#16 }, cart := [0x5A#8] })).map
      (fun t => (t.main.point, t.busTrace, t.cart)) = some (.burstPut 0x5A#8, [.read 0x1234#16 true false], []) ∧
    (next? (step { turn sU .top with sess := { sU.sess with phase := .exec, cmd := 0x0B#8 } })).map
      (fun t => (t.main.point, t.sess.out)) = some (.emitAcq 0x00#8, [0x00#8, 0x00#8]) := by decide

theorem witness_PollStepReadsTwice :
    let s := { turn sU .top with sess := { sU.sess with poll := some ⟨0x4000#16, true, false⟩ }, cart := [0x80#8, 0x80#8] }
    let u := { s with cart := [0x80#8, 0x00#8] }
    s.port = [.mainLoop] ∧ s.main = { asleep := false, point := .top } ∧
    s.sess.poll = some ⟨0x4000#16, true, false⟩ ∧
    (answers s 0x80#8 [0x80#8] s.draws ∧ answers { s with cart := [0x80#8] } 0x80#8 [] s.draws) ∧
    (answers u 0x80#8 [0x00#8] u.draws ∧ answers { u with cart := [0x00#8] } 0x00#8 [] u.draws) ∧
    answers { s with cart := [] } 0x00#8 [] (s.draws + 1) ∧ (0x80#8).getLsbD 7 = true ∧ (0x80#8 ≠ 0x00#8) := by
  unfold answers; decide

/-- The invariants' hypotheses, in a state with the pipe running and one record of each kind on its way. -/
theorem witness_EveryStepKeepsTheInvariants :
    sE.buf.wf = true ∧ sE.recordsSized ∧ sE.inBounds ∧ sE.maskLegal ∧ sE.sleepLegal ∧ sE.ep0Ready ∧ sE.notifStalled ∧
    sE.pipeLinked ∧ sE.lockSafe ∧ sSusp.maskLegal ∧ sU.lockSafe := by
  refine ⟨?_, ?_, ?_, ?_, ?_, ?_, ?_, ?_, ?_, ?_, ?_⟩ <;> decide

/-- A step from such a state has a next state. -/
theorem witness_EveryStepHasANextState : (next? (step { sE with port := [.line ⟨0x1700#16, []⟩] })).isSome = true := by
  decide

theorem witness_LinkedPipeRaisesNoBulkFault :
    sE.pipeLinked ∧ fault? (step { sE with port := [.line ⟨0x1900#16, []⟩] }) = some .csUnbalanced := by decide

/-- A locked session; and one in which the staged reset is executed. -/
theorem witness_LockedSessionNeverReachesTheBus :
    let s := { sE with port := [.line ⟨0x1B00#16, []⟩], dev := { sE.dev with pendingReset := true } }
    sE.lockSafe ∧ sE.sess.unlocked = false ∧ s.lockSafe ∧ s.sess.unlocked = false ∧ s.main.asleep = false ∧
    (next? (step s)).map (fun t => (t.dev.state, t.main.point, t.sess.mode)) = some (.detached, .attach, 0x00#8) := by
  decide

theorem witness_OnlyTheKeyUnlocks :
    (next? (step
      { turn sE (.rxTake .header 0x4B#8) with
        rx := { sE.rx with slice := some ⟨false, 16, 1⟩ }
        sess := { sE.sess with phase := .header, cmd := 0x02#8, hdr := List.replicate 16 0x4B#8, hdrFill := 15,
                               hdrNeed := 16 } })).map (·.sess.unlocked) = some true ∧
    (next? (step
      { sU with
        port := [.line ⟨0x1B00#16, []⟩], dev := { sU.dev with pendingReset := true } })).map
      (fun t => (t.sess.unlocked, t.dev.state, t.main.point)) = some (false, .detached, .attach) ∧
    (next? (step
      { sU with
        port := [.line ⟨0x2100#16, []⟩], sess := { sU.sess with poll := some ⟨0#16, true, false⟩ } })).map
      (fun t => (t.sess.unlocked, t.dev.state, t.main.point)) = some (false, .detached, .attach) := by decide

theorem witness_WritersOfAddressEnableAndReason :
    (next? (exec .irq (withCtl (queued sE [] [in0]) { Ctl.idle with pendingAddress := some 9#7 }))).map
      (·.dev.address) = some 9#7 ∧
    (next? (exec .csEnter sE)).map (·.irq.enable) = some false ∧
    (next? (exec (.vendorReset (fields 0x5A#16 0#16 0#16)) sE)).map (·.resetReason) = some 0x5A#8 := by decide

theorem witness_SleepInsideASectionIsNeverWoken :
    let s := { sSusp with main := { asleep := true, point := .top }, irq := { sSusp.irq with enable := false } }
    s.main.asleep = true ∧ s.irq.enable = false ∧ s.sess.poll = none ∧
    (next? (step { s with port := [.line ⟨0x0400#16, []⟩] })).isSome = true := by decide

theorem witness_OwedPacketIsNotForgotten :
    let s := withTx sE { sE.tx with slice := some ⟨true, 0, 64⟩, next := true, zlpOwed := true,
                                    busy := { even := true, odd := false } }
    s.txSliceFull ∧ s.tx.zlpOwed = true ∧
    (next? (exec .flush s)).map (fun t => (t.ret, t.tx.zlpOwed, t.bd.bulkIn1.cnt)) = some (.flag true, false, 0#8) := by
  decide

theorem witness_SuspendAndResumeRestoreTheBlock :
    irqTakes (pend sE { calm with idle := true }) .idle ∧ sE.dev.suspended = false ∧ sE.dev.clock = .normal ∧
    sE.main.asleep = false ∧ sE.irq.mask.getLsbD 7 = false := by
  refine ⟨?_, by decide⟩
  unfold irqTakes taken; decide

theorem witness_StaleInCompletionFaults :
    (sIn 0#10).dev.state = .default ∧ (sIn 0#10).dev.suspended = false ∧ (sIn 0#10).dev.configured = true ∧
    (sIn 0#10).irq.enable = true ∧ (sIn 0#10).irq.mask = 0x1B#8 ∧ (sIn 0#10).irq.trn = [] ∧
    (sIn 0#10).irq.pending = calm ∧ (sIn 0#10).bd.ep0Out.own = .engine ∧ (sIn 0#10).bd.ep0In = armedBd 0#10 true ∧
    decodeSetup vectorParams [0x20#8, 0x20#8, 0#8, 0#8, 0#8, 0#8, 7#8, 0#8] =
      .ok (.setLineCoding (fields 0#16 0#16 7#16)) ∧ (fields 0#16 0#16 7#16).wLength ≠ 0#16 := by decide

end Sys2Proof.Tests
end

section
/-! The sequence of the connection state, the two observation lists and the parameters, followed through every step
(40_device_events.md R173; 10_state.md R60, R65; 00_scope.md R8); and the step that runs a line of the port
(30_encoding.md R123, R131).

Two relations carry the argument. `s.Extends t`: the connection state and the parameters stay, the observation lists may
grow; it composes. `s.Advances t`: the same but for one move of the connection state along its sequence; it does not
compose with itself, only with `Extends` on either side. -/

namespace Sys2Proof.Machine

/-! ### A line at the head of the port -/

theorem step_of_port_line {s : State} {l : Line} {rest : List Turn} (h : s.port = .line l :: rest) :
    step s = runLine l { s with port := rest } := by
  simp only [step, nextTurn, h, State.setPort]

theorem runLine_of_ok {s : State} {l : Line} {i : Instr} (h : decodeLine s.cfg l = .ok i) :
    runLine l s = exec i s := by
  simp only [runLine, h]

theorem runLine_of_reject {s : State} {l : Line} {why : Reject} (h : decodeLine s.cfg l = .reject why) :
    runLine l s = .refused (.badWord why) := by
  simp only [runLine, h]

/-- Settles O6: the head of the port alone decides what the step runs, and taking it leaves the parameters. -/
theorem stepRunsTheDecodedLine : Obligations.StepRunsTheDecodedLine := by
  intro s l rest hport
  rw [step_of_port_line hport]
  exact ⟨fun i hi => runLine_of_ok hi, fun why hr => runLine_of_reject hr⟩

/-! ### What the statement looks at -/

/-- The connection state, what the host has received, what went to the cartridge bus, and the parameters. -/
def State.observed (s : State) : DevPhase × List Packet × List BusOp × Params :=
  (s.dev.state, s.wireIn, s.busTrace, s.cfg)

/-- For the frame lemmas of Laws/MainLoop.lean: the frame names the state that `t` is. -/
theorem observed_of_frame {s t frame : State} (h : t = frame) (hframe : frame.observed = s.observed) :
    t.observed = s.observed :=
  h ▸ hframe

/-- One move of the connection state along its sequence (R173), or none; a device reset returns to DETACHED (R298). -/
def DevPhase.MovesTo (a b : DevPhase) : Prop :=
  b = a ∨ b = .detached ∨ (a = .detached ∧ b = .attached) ∨ (a = .attached ∧ b = .powered) ∨
    (a ≠ .detached ∧ b = .default)

/-- Nothing observed is taken back (R60, R65), and the parameters stay (R8). -/
structure State.KeepsRecords (s t : State) : Prop where
  wireIn : s.wireIn <+: t.wireIn
  busTrace : s.busTrace <+: t.busTrace
  cfg : t.cfg = s.cfg

/-- The records are kept and the connection state stays. -/
structure State.Extends (s t : State) : Prop extends s.KeepsRecords t where
  state : t.dev.state = s.dev.state

/-- The records are kept and the connection state makes at most one move. -/
structure State.Advances (s t : State) : Prop extends s.KeepsRecords t where
  state : s.dev.state.MovesTo t.dev.state

section Relations
variable {s t u : State}

theorem State.KeepsRecords.trans (h : s.KeepsRecords t) (k : t.KeepsRecords u) : s.KeepsRecords u :=
  ⟨h.wireIn.trans k.wireIn, h.busTrace.trans k.busTrace, k.cfg.trans h.cfg⟩

theorem State.KeepsRecords.of_eq (hwire : t.wireIn = s.wireIn) (hbus : t.busTrace = s.busTrace) (hcfg : t.cfg = s.cfg) :
    s.KeepsRecords t :=
  ⟨hwire ▸ List.prefix_rfl, hbus ▸ List.prefix_rfl, hcfg⟩

theorem State.Extends.trans (h : s.Extends t) (k : t.Extends u) : s.Extends u :=
  ⟨h.toKeepsRecords.trans k.toKeepsRecords, k.state.trans h.state⟩

theorem State.Extends.of_observed (h : t.observed = s.observed) : s.Extends t := by
  simp only [State.observed, Prod.mk.injEq] at h
  obtain ⟨hdev, hwire, hbus, hcfg⟩ := h
  exact ⟨.of_eq hwire hbus hcfg, hdev⟩

theorem State.Extends.advances (h : s.Extends t) : s.Advances t := ⟨h.toKeepsRecords, .inl h.state⟩

theorem State.Advances.of_observed (h : t.observed = s.observed) : s.Advances t :=
  (State.Extends.of_observed h).advances

theorem State.Advances.trans_extends (h : s.Advances t) (k : t.Extends u) : s.Advances u :=
  ⟨h.toKeepsRecords.trans k.toKeepsRecords, k.state ▸ h.state⟩

theorem State.Extends.trans_advances (h : s.Extends t) (k : t.Advances u) : s.Advances u :=
  ⟨h.toKeepsRecords.trans k.toKeepsRecords, h.state ▸ k.state⟩

theorem State.Extends.of_next (h : (.next u : Result) = .next t) (hu : s.Extends u) : s.Extends t :=
  Host.Outcome.next.inj h ▸ hu

theorem State.Advances.of_next (h : (.next u : Result) = .next t) (hu : s.Advances u) : s.Advances t :=
  Host.Outcome.next.inj h ▸ hu

theorem State.Advances.of_whenEnabled {e : Bool} {r : Result} (h : whenEnabled e s r = .next t)
    (hr : e = true → r = .next t → s.Advances t) : s.Advances t := by
  rcases whenEnabled_next h with ⟨he, h⟩ | ⟨-, rfl⟩
  · exact hr he h
  · exact .of_observed rfl

theorem State.Advances.of_whenAwake {r : Result} (h : whenAwake s r = .next t) (hr : r = .next t → s.Advances t) :
    s.Advances t := by
  rcases whenAwake_next h with ⟨-, h⟩ | ⟨-, rfl⟩
  · exact hr h
  · exact .of_observed rfl

theorem State.Advances.of_returning {r : Ret} (h : returning r u = .next t) (hu : s.Advances u) : s.Advances t :=
  .of_next h (hu.trans_extends (.of_observed rfl))

theorem observed_of_returnFromInterrupt (h : returnFromInterrupt u = .next t) (hu : u.observed = s.observed) :
    t.observed = s.observed := by
  obtain rfl := Host.Outcome.next.inj h
  exact hu

end Relations

/-! ### The engine's acts (40_device_events.md R163-R171) -/

@[simp] theorem State.noteActivity_observed (s : State) : s.noteActivity.observed = s.observed := by
  simp [State.observed]

@[simp] theorem State.receive_observed (s : State) (d : DescId) (bs : List Byte) (r : Completion) :
    (s.receive d bs r).observed = s.observed := by
  simp [State.observed]

theorem State.transmit_wireIn (s : State) (d : DescId) (r : Completion) :
    (s.transmit d r).wireIn = s.wireIn ++ [s.wirePacket d r.ep] := by
  simp [State.transmit]

/-- An IN transaction adds its packet to what the host has received (R163). -/
theorem State.transmit_extends (s : State) (d : DescId) (r : Completion) : s.Extends (s.transmit d r) :=
  ⟨⟨s.transmit_wireIn d r ▸ List.prefix_append _ _, by simp, by simp⟩, by simp⟩

section Events
variable {s t : State}

theorem execEvSe0Exit_advances (h : execEvSe0Exit s = .next t) : s.Advances t :=
  .of_whenEnabled h fun he h =>
    .of_returning h ⟨.of_eq rfl rfl rfl, .inr (.inr (.inr (.inl ⟨of_decide_eq_true he, rfl⟩)))⟩

theorem execEvBusReset_advances (h : execEvBusReset s = .next t) : s.Advances t :=
  .of_whenEnabled h fun _ h => .of_returning h (.of_observed (State.noteActivity_observed _))

theorem execEvIdle_advances (h : execEvIdle s = .next t) : s.Advances t :=
  .of_whenEnabled h fun _ h => .of_returning h (.of_observed (State.noteActivity_observed _))

theorem execEvActivity_advances (h : execEvActivity s = .next t) : s.Advances t :=
  .of_whenEnabled h fun _ h => .of_returning h (.of_observed rfl)

theorem execEvError_advances {c : BitVec 6} (h : execEvError c s = .next t) : s.Advances t :=
  .of_whenEnabled h fun _ h => .of_returning h (.of_observed (State.noteActivity_observed _))

theorem execEvTrnSetup_advances {packet : List Byte} (h : execEvTrnSetup packet s = .next t) : s.Advances t :=
  .of_whenEnabled h fun _ h => .of_returning h (.of_observed (by simp))

theorem execEvTrnOut_advances {ep : Endpoint} {half : Bit} {data : List Byte}
    (h : execEvTrnOut ep half data s = .next t) : s.Advances t := by
  cases ep with
  | ep0 => exact .of_whenEnabled h fun _ h => .of_returning h (.of_observed (by simp))
  | notif => exact .of_whenEnabled h fun _ h => .of_returning h (.of_observed rfl)
  | bulk =>
    refine .of_whenEnabled h fun _ h => .of_returning h (.of_observed ?_)
    rw [State.noteActivity_observed]
    exact s.receive_observed (.bulkOut half) data { kind := .out, ep := .bulk, half := half }

theorem withinBuffer_next {d : DescId} {r : Result} (h : withinBuffer s d r = .next t) : r = .next t := by
  unfold withinBuffer at h
  split at h
  · exact h
  · cases h

theorem execEvTrnIn_advances {ep : Endpoint} {half : Bit} (h : execEvTrnIn ep half s = .next t) : s.Advances t := by
  cases ep with
  | ep0 =>
    refine .of_whenEnabled h fun _ h => .of_returning (withinBuffer_next h) (State.Extends.advances ?_)
    exact (s.transmit_extends .ep0In _).trans (.of_observed (State.noteActivity_observed _))
  | notif => exact .of_whenEnabled h fun _ h => .of_returning h (.of_observed rfl)
  | bulk =>
    refine .of_whenEnabled h fun _ h => .of_returning (withinBuffer_next h) (State.Extends.advances ?_)
    exact (s.transmit_extends _ _).trans (.of_observed (State.noteActivity_observed _))

end Events

/-! ### Control transfers (41_control_transfer.md R200-R229): none of them touches what is observed -/

@[simp] theorem State.beginSetup_observed (s : State) : s.beginSetup.observed = s.observed := by
  simp [State.observed]

@[simp] theorem State.stallEp0_observed (s : State) : s.stallEp0.observed = s.observed := by
  simp [State.observed]

@[simp] theorem State.statusIn_observed (s : State) : s.statusIn.observed = s.observed := by
  simp [State.observed]

@[simp] theorem State.sendInChunk_observed (s : State) : s.sendInChunk.observed = s.observed := by
  simp [State.observed]

@[simp] theorem State.startIn_observed (s : State) (kind : SrcKind) (src : Src) (w : Word) :
    (s.startIn kind src w).observed = s.observed := by
  simp [State.observed]

@[simp] theorem State.startOut_observed (s : State) (dest : Option RamRef) (w : Word) :
    (s.startOut dest w).observed = s.observed := by
  simp [State.observed]

@[simp] theorem State.startStage_observed (s : State) (a : Answer) (w : Word) :
    (s.startStage a w).observed = s.observed := by
  cases a with
  | stall => exact s.stallEp0_observed
  | noData => exact s.statusIn_observed
  | dataIn kind src => exact s.startIn_observed kind src w
  | dataOut dest =>
    by_cases hw : w = 0#16 <;> simp [State.startStage, hw]

@[simp] theorem State.applyAddress_observed (s : State) : s.applyAddress.observed = s.observed := by
  unfold State.applyAddress
  split <;> rfl

@[simp] theorem State.storeOut_observed (s : State) (k : Nat) : (s.storeOut k).observed = s.observed := by
  simp [State.observed]

@[simp] theorem State.pipeSetup_observed (s : State) : s.pipeSetup.observed = s.observed := by
  simp [State.observed]

@[simp] theorem State.pipeTeardown_observed (s : State) : s.pipeTeardown.observed = s.observed := by
  simp [State.observed]

section Requests
variable {s t : State} {q : SetupFields}

theorem observed_of_answerSetupWith {f : State → State} {a : Answer} (h : answerSetupWith f a q s = .next t)
    (hf : (f s.beginSetup).observed = s.beginSetup.observed) : t.observed = s.observed :=
  observed_of_returnFromInterrupt h (by rw [State.startStage_observed, hf, State.beginSetup_observed])

theorem observed_of_answerSetup {a : Answer} (h : answerSetup a q s = .next t) : t.observed = s.observed :=
  observed_of_returnFromInterrupt h (by simp)

theorem observed_of_stallSetup (h : stallSetup s = .next t) : t.observed = s.observed :=
  observed_of_returnFromInterrupt h (by simp)

theorem observed_of_execSetAddress (h : execSetAddress q s = .next t) : t.observed = s.observed :=
  observed_of_answerSetupWith h rfl

theorem observed_of_execVendorReset (h : execVendorReset q s = .next t) : t.observed = s.observed :=
  observed_of_answerSetupWith h rfl

theorem observed_of_execSetConfiguration (h : execSetConfiguration q s = .next t) : t.observed = s.observed := by
  unfold execSetConfiguration at h
  split at h
  · split at h
    · cases h
    · exact observed_of_answerSetupWith h (State.pipeSetup_observed _)
  · split at h
    · cases h
    · exact observed_of_answerSetupWith h (State.pipeTeardown_observed _)
  · exact observed_of_answerSetup h

theorem observed_of_execSetControlLineState (h : execSetControlLineState q s = .next t) : t.observed = s.observed := by
  unfold execSetControlLineState at h
  split at h
  · exact observed_of_answerSetupWith h rfl
  · exact observed_of_answerSetup h

/-- Every control request, matched or not, leaves what is observed (R201, R202, R221). -/
theorem observed_of_runRequest {i : Instr} (h : runRequest i s = .next t) : t.observed = s.observed := by
  cases i with
  | setAddress q => exact observed_of_execSetAddress h
  | setConfiguration q => exact observed_of_execSetConfiguration h
  | setControlLineState q => exact observed_of_execSetControlLineState h
  | vendorReset q => exact observed_of_execVendorReset h
  | getStatus q | getDescriptor q | getConfiguration q | getInterface q | setInterface q | sendEncapsulatedCommand q
  | getEncapsulatedResponse q | setLineCoding q | getLineCoding q | vendorIdentify q => exact observed_of_answerSetup h
  | _ => exact observed_of_stallSetup h

theorem observed_of_setupStage (h : setupStage s = .next t) : t.observed = s.observed := by
  unfold setupStage at h
  split at h
  · exact observed_of_runRequest h
  · exact observed_of_stallSetup h

theorem observed_of_ep0InComplete (h : ep0InComplete s = .next t) : t.observed = s.observed := by
  unfold ep0InComplete at h
  split at h
  · split at h
    · exact observed_of_returnFromInterrupt h rfl
    · exact observed_of_returnFromInterrupt h s.sendInChunk_observed
  · split at h
    · cases h
    · exact observed_of_returnFromInterrupt h s.applyAddress_observed

theorem observed_of_ep0OutComplete (h : ep0OutComplete s = .next t) : t.observed = s.observed := by
  unfold ep0OutComplete at h
  split at h
  · dsimp only at h
    split at h
    · exact observed_of_returnFromInterrupt h ((State.statusIn_observed _).trans (s.storeOut_observed _))
    · exact observed_of_returnFromInterrupt h (s.storeOut_observed _)
  · exact observed_of_returnFromInterrupt h rfl

end Requests

/-! ### The interrupt step (60_exceptions.md R384) -/

section Interrupt
variable {s t : State}

theorem observed_of_bulkOutComplete {r : Bit} (h : bulkOutComplete r s = .next t) : t.observed = s.observed := by
  unfold bulkOutComplete at h
  split at h
  · cases h
  · split at h
    · cases h
    · split at h
      · cases h
      · exact observed_of_returnFromInterrupt h rfl

theorem observed_of_bulkInComplete {r : Bit} (h : bulkInComplete r s = .next t) : t.observed = s.observed := by
  unfold bulkInComplete at h
  split at h
  · cases h
  · split at h
    · cases h
    · split at h
      · cases h
      · exact observed_of_returnFromInterrupt h rfl

theorem observed_of_handleCompletion {e : Completion} (h : handleCompletion e s = .next t) :
    t.observed = s.observed := by
  unfold handleCompletion at h
  split at h
  · exact observed_of_setupStage h
  · exact observed_of_ep0OutComplete h
  · exact observed_of_ep0InComplete h
  · exact observed_of_bulkOutComplete h
  · exact observed_of_bulkInComplete h
  all_goals cases h

theorem observed_of_handleTrn (h : handleTrn s = .next t) : t.observed = s.observed := by
  unfold handleTrn at h
  split at h
  · obtain rfl := Host.Outcome.next.inj h
    rfl
  · exact (observed_of_handleCompletion h).trans rfl

theorem observed_of_handleActivity (h : handleActivity s = .next t) : t.observed = s.observed := by
  unfold handleActivity at h
  dsimp only at h
  split at h <;> exact observed_of_returnFromInterrupt h rfl

/-- The RESET handler brings an attached device to DEFAULT (R165). -/
theorem handleReset_advances (hs : s.dev.state ≠ .detached) (h : handleReset s = .next t) : s.Advances t :=
  .of_next h
    ⟨.of_eq s.usbResetInit_wireIn s.usbResetInit_busTrace s.usbResetInit_cfg, .inr (.inr (.inr (.inr ⟨hs, rfl⟩)))⟩

theorem execIrq_advances (h : execIrq s = .next t) : s.Advances t := by
  rcases takeInterrupt_next h with ⟨-, hs, src, -, h⟩ | rfl
  · cases src with
    | activity => exact .of_observed (observed_of_handleActivity h)
    | reset => exact handleReset_advances hs h
    | idle => exact .of_observed (observed_of_returnFromInterrupt h rfl)
    | error => exact .of_observed (observed_of_returnFromInterrupt h rfl)
    | trn => exact .of_observed (observed_of_handleTrn h)
  · exact .of_observed rfl

end Interrupt

/-! ### The system operations and the watchdog (42_bulk_pipe.md R292-R298, 43_command_protocol.md R347) -/

/-- A device reset returns to DETACHED and keeps the observations and the parameters (R298, log 20). -/
theorem State.deviceReset_advances (s : State) : s.Advances s.deviceReset :=
  ⟨.of_eq rfl rfl rfl, .inr (.inl rfl)⟩

section System
variable {s t : State}

theorem execAttach_advances (h : execAttach s = .next t) : s.Advances t := by
  refine .of_whenAwake h fun h => ?_
  split at h
  · rename_i hs
    exact .of_returning h
      ⟨.of_eq s.usbResetInit_wireIn s.usbResetInit_busTrace s.usbResetInit_cfg, .inr (.inr (.inl ⟨hs, rfl⟩))⟩
  · exact .of_returning h (.of_observed rfl)

theorem execIsActive_advances (h : execIsActive s = .next t) : s.Advances t :=
  .of_whenAwake h fun h => .of_returning h (.of_observed rfl)

theorem execCsEnter_advances (h : execCsEnter s = .next t) : s.Advances t :=
  .of_whenAwake h fun h => .of_returning h (.of_observed rfl)

theorem execCsExit_advances (h : execCsExit s = .next t) : s.Advances t := by
  refine .of_whenAwake h fun h => ?_
  split at h
  · cases h
  · exact .of_returning h (.of_observed rfl)

theorem execSleep_advances (h : execSleep s = .next t) : s.Advances t := by
  refine .of_whenAwake h fun h => .of_returning h ?_
  split <;> exact .of_observed rfl

theorem execResetExec_advances (h : execResetExec s = .next t) : s.Advances t := by
  refine .of_whenAwake h fun h => .of_returning h ?_
  split
  · exact s.deviceReset_advances
  · exact .of_observed rfl

theorem execWatchdog_advances (h : execWatchdog s = .next t) : s.Advances t :=
  .of_whenEnabled h fun _ h => .of_returning h s.deviceReset_advances

end System

/-! ### The cartridge bus (20_memory.md R97): each operation is appended to the trace -/

theorem State.traceBus_extends (s : State) (op : BusOp) : s.Extends (s.traceBus op) :=
  ⟨⟨List.prefix_rfl, List.prefix_append _ _, rfl⟩, rfl⟩

@[simp] theorem State.oracleNext_observed (s : State) : s.oracleNext.observed = s.observed := by
  simp [State.observed]

theorem State.busRead_extends (s : State) (a : Word) (cs ce : Bool) : s.Extends (s.busRead a cs ce).2 :=
  (s.traceBus_extends _).trans (.of_observed (State.oracleNext_observed _))

theorem State.pinRead_extends (s : State) : s.Extends s.pinRead.2 :=
  (s.traceBus_extends _).trans (.of_observed (State.oracleNext_observed _))

theorem State.busWrite_extends (s : State) (a : Word) (b : Byte) (cs alt : Bool) : s.Extends (s.busWrite a b cs alt) :=
  s.traceBus_extends _

/-! ### Commands (43_command_protocol.md R324-R344) -/

@[simp] theorem State.setOut_observed (s : State) (bs : List Byte) : (s.setOut bs).observed = s.observed := by
  simp [State.observed]

section Commands
variable {s t : State}

/-- A command extends what is observed where its own work does, whether it starts, is discarded or is not enabled. -/
theorem startCommand_extends {id : BitVec 5} {mods : BitVec 3} {header : List Byte} {f : State → State}
    (h : startCommand id mods header f s = .next t) (hf : ∀ u : State, u.Extends (f u)) : s.Extends t := by
  rcases startCommand_cases id mods header f s with ⟨-, hr⟩ | ⟨-, -, -, hr⟩ | ⟨-, hr⟩ <;>
    obtain rfl := Host.Outcome.next.inj (hr.symm.trans h)
  · have hstart : s.Extends (s.enterExec (mkCommand mods id) header) := .of_observed rfl
    exact hstart.trans ((hf _).trans (.of_observed rfl))
  · exact .of_observed rfl
  · exact .of_observed rfl

variable {mods : BitVec 3}

theorem execPing_extends {data : List Byte} (h : execPing mods data s = .next t) : s.Extends t :=
  startCommand_extends h fun u => .of_observed (u.setOut_observed _)

theorem execUnlock_extends {key : List Byte} (h : execUnlock mods key s = .next t) : s.Extends t := by
  refine startCommand_extends h fun u => .of_observed ?_
  split
  · exact State.setOut_observed _ _
  · rfl

/-- SET_MODE drives the mode onto the bus (R332). -/
theorem execSetMode_extends {mode : Byte} (h : execSetMode mods mode s = .next t) : s.Extends t := by
  refine startCommand_extends h fun u => ?_
  have hmode : u.Extends (u.setSess { u.sess with mode := mode &&& u.cfg.modeMask }) := .of_observed rfl
  exact hmode.trans ((State.traceBus_extends _ _).trans (.of_observed rfl))

theorem execGetMode_extends (h : execGetMode mods s = .next t) : s.Extends t :=
  startCommand_extends h fun u => u.pinRead_extends.trans (.of_observed (State.setOut_observed _ _))

theorem execRead_extends {addr : Word} (h : execRead mods addr s = .next t) : s.Extends t :=
  startCommand_extends h fun u => (u.busRead_extends _ _ _).trans (.of_observed (State.setOut_observed _ _))

theorem execReadBurst_extends {addr len : Word} (h : execReadBurst mods addr len s = .next t) : s.Extends t :=
  startCommand_extends h fun _ => .of_observed rfl

theorem execWrite_extends {addr : Word} {data : Byte} (h : execWrite mods addr data s = .next t) : s.Extends t :=
  startCommand_extends h fun u => (u.busWrite_extends _ _ _ _).trans (.of_observed rfl)

theorem execWriteBurst_extends {addr len : Word} (h : execWriteBurst mods addr len s = .next t) : s.Extends t :=
  startCommand_extends h fun _ => .of_observed rfl

theorem execPollFlashData_extends {addr : Word} {polarity : Byte}
    (h : execPollFlashData mods addr polarity s = .next t) : s.Extends t :=
  startCommand_extends h fun _ => .of_observed rfl

theorem execSetFlashWriteSequence_extends {n : Byte} (h : execSetFlashWriteSequence mods n s = .next t) :
    s.Extends t := by
  refine startCommand_extends h fun u => .of_observed ?_
  split <;> rfl

theorem execFlashBurst_extends {addr len : Word} (h : execFlashBurst mods addr len s = .next t) : s.Extends t :=
  startCommand_extends h fun _ => .of_observed rfl

theorem execDiagnostics_extends (h : execDiagnostics mods s = .next t) : s.Extends t :=
  startCommand_extends h fun u => .of_observed (u.setOut_observed _)

theorem execReset_extends {magic : Byte} (h : execReset mods magic s = .next t) : s.Extends t :=
  startCommand_extends h fun _ => .of_observed rfl

theorem execIdentify_extends (h : execIdentify mods s = .next t) : s.Extends t :=
  startCommand_extends h fun u => .of_observed (u.setOut_observed _)

end Commands

/-! ### Every operation -/

/-- Every operation keeps the records and makes at most one move of the connection state. -/
theorem exec_advances {i : Instr} {s t : State} (h : exec i s = .next t) : s.Advances t := by
  cases i with
  | evSe0Exit => exact execEvSe0Exit_advances h
  | evBusReset => exact execEvBusReset_advances h
  | evIdle => exact execEvIdle_advances h
  | evActivity => exact execEvActivity_advances h
  | evError classes => exact execEvError_advances h
  | evTrnSetup packet => exact execEvTrnSetup_advances h
  | evTrnOut ep half data => exact execEvTrnOut_advances h
  | evTrnIn ep half => exact execEvTrnIn_advances h
  | attach => exact execAttach_advances h
  | acqRx => exact .of_observed (observed_of_frame (execAcqRx_frame h) rfl)
  | rxRead index => exact .of_observed (observed_of_frame (execRxRead_frame h) rfl)
  | rxTake count => exact .of_observed (observed_of_frame (execRxTake_frame h) rfl)
  | acqTx => exact .of_observed (observed_of_frame (execAcqTx_frame h) rfl)
  | txPut byte => exact .of_observed (observed_of_frame (execTxPut_frame h) rfl)
  | flush => exact .of_observed (observed_of_frame (execFlush_frame h) rfl)
  | isActive => exact execIsActive_advances h
  | csEnter => exact execCsEnter_advances h
  | csExit => exact execCsExit_advances h
  | sleep => exact execSleep_advances h
  | resetExec => exact execResetExec_advances h
  | irq => exact execIrq_advances h
  | watchdog => exact execWatchdog_advances h
  | getStatus q => exact .of_observed (observed_of_runRequest (i := .getStatus q) h)
  | setAddress q => exact .of_observed (observed_of_runRequest (i := .setAddress q) h)
  | getDescriptor q => exact .of_observed (observed_of_runRequest (i := .getDescriptor q) h)
  | getConfiguration q => exact .of_observed (observed_of_runRequest (i := .getConfiguration q) h)
  | setConfiguration q => exact .of_observed (observed_of_runRequest (i := .setConfiguration q) h)
  | getInterface q => exact .of_observed (observed_of_runRequest (i := .getInterface q) h)
  | setInterface q => exact .of_observed (observed_of_runRequest (i := .setInterface q) h)
  | sendEncapsulatedCommand q => exact .of_observed (observed_of_runRequest (i := .sendEncapsulatedCommand q) h)
  | getEncapsulatedResponse q => exact .of_observed (observed_of_runRequest (i := .getEncapsulatedResponse q) h)
  | setLineCoding q => exact .of_observed (observed_of_runRequest (i := .setLineCoding q) h)
  | getLineCoding q => exact .of_observed (observed_of_runRequest (i := .getLineCoding q) h)
  | setControlLineState q => exact .of_observed (observed_of_runRequest (i := .setControlLineState q) h)
  | vendorReset q => exact .of_observed (observed_of_runRequest (i := .vendorReset q) h)
  | vendorIdentify q => exact .of_observed (observed_of_runRequest (i := .vendorIdentify q) h)
  | ping mods data => exact (execPing_extends h).advances
  | unlock mods key => exact (execUnlock_extends h).advances
  | setMode mods mode => exact (execSetMode_extends h).advances
  | getMode mods => exact (execGetMode_extends h).advances
  | read mods addr => exact (execRead_extends h).advances
  | readBurst mods addr len => exact (execReadBurst_extends h).advances
  | write mods addr data => exact (execWrite_extends h).advances
  | writeBurst mods addr len => exact (execWriteBurst_extends h).advances
  | pollFlashData mods addr polarity => exact (execPollFlashData_extends h).advances
  | setFlashWriteSequence mods n => exact (execSetFlashWriteSequence_extends h).advances
  | flashBurst mods addr len => exact (execFlashBurst_extends h).advances
  | diagnostics mods => exact (execDiagnostics_extends h).advances
  | reset mods magic => exact (execReset_extends h).advances
  | identify mods => exact (execIdentify_extends h).advances

/-! ### The main loop's own program (43_command_protocol.md R320-R341) -/

@[simp] theorem State.dispatchPoint_observed (s : State) : s.dispatchPoint.observed = s.observed :=
  observed_of_frame s.dispatchPoint_frame rfl

theorem State.afterActive_observed (s : State) : s.afterActive.observed = s.observed := by
  unfold State.afterActive
  split
  · exact s.dispatchPoint_observed
  · split
    · rfl
    · split <;> rfl

theorem State.afterResetExec_observed (s : State) : s.afterResetExec.observed = s.observed := by
  unfold State.afterResetExec
  split <;> rfl

theorem State.afterRxAcq_observed (s : State) (use : RxUse) : (s.afterRxAcq use).observed = s.observed := by
  unfold State.afterRxAcq
  split <;> rfl

theorem State.afterRxAcqAgain_observed (s : State) (use : RxUse) : (s.afterRxAcqAgain use).observed = s.observed := by
  unfold State.afterRxAcqAgain
  split <;> rfl

theorem State.afterRxRead_observed (s : State) (use : RxUse) : (s.afterRxRead use).observed = s.observed := by
  unfold State.afterRxRead
  split <;> rfl

theorem State.afterEmitAcq_observed (s : State) (v : Byte) : (s.afterEmitAcq v).observed = s.observed := by
  unfold State.afterEmitAcq
  split <;> rfl

theorem State.afterBurstAcq_extends (s : State) : s.Extends s.afterBurstAcq := by
  unfold State.afterBurstAcq
  split
  · exact (s.busRead_extends _ _ _).trans (.of_observed rfl)
  · exact .of_observed rfl

theorem State.streamWriteBurst_extends (s : State) (b : Byte) : s.Extends (s.streamWriteBurst b) :=
  (s.busWrite_extends _ _ _ _).trans (.of_observed rfl)

theorem State.replay_extends (s : State) (rs : List WriteRec) : s.Extends (s.replay rs) := by
  induction rs generalizing s with
  | nil => exact .of_observed rfl
  | cons r rs ih => exact (s.busWrite_extends _ _ _ _).trans (ih _)

theorem State.streamFlashBurst_extends (s : State) (b : Byte) : s.Extends (s.streamFlashBurst b) := by
  have hadvance : s.Extends s.advanceBurst := .of_observed rfl
  unfold State.streamFlashBurst
  dsimp only
  split
  · exact hadvance
  · have hreplay := hadvance.trans (State.replay_extends _ (s.flashseq.recs.take s.flashseq.count))
    exact hreplay.trans ((State.busWrite_extends _ _ _ _ _).trans (.of_observed rfl))

theorem State.pollIteration_extends (s : State) (p : Poll) : s.Extends (s.pollIteration p) := by
  have hreads := (s.busRead_extends p.addr p.cs false).trans (State.busRead_extends _ p.addr p.cs false)
  unfold State.pollIteration
  dsimp only
  split
  · split <;> exact hreads.trans (.of_observed rfl)
  · exact hreads

section MainLoop
variable {s t : State}

theorem beginCommand_advances {bytes : List Byte} (h : beginCommand bytes s = .next t) : s.Advances t := by
  unfold beginCommand at h
  split at h
  · exact exec_advances h
  · exact .of_next h (.of_observed rfl)

theorem startCommandByte_advances {b : Byte} (h : startCommandByte b s = .next t) : s.Advances t := by
  unfold startCommandByte at h
  split at h
  · exact .of_next h (.of_observed rfl)
  · split at h
    · exact .of_next h (.of_observed rfl)
    · split at h
      · exact beginCommand_advances h
      · exact .of_next h (.of_observed rfl)

theorem headerByte_advances {b : Byte} (h : headerByte b s = .next t) : s.Advances t := by
  unfold headerByte at h
  dsimp only at h
  have hstore : s.Extends
      (s.setSess { s.sess with hdr := s.sess.hdr.set s.sess.hdrFill b, hdrFill := s.sess.hdrFill + 1 }) :=
    .of_observed rfl
  split at h
  · exact hstore.trans_advances (beginCommand_advances h)
  · exact .of_next h hstore.advances

theorem useByte_advances {use : RxUse} {b : Byte} (h : useByte use b s = .next t) : s.Advances t := by
  cases use with
  | id => exact startCommandByte_advances h
  | header => exact headerByte_advances h
  | writeBurst => exact .of_next h (s.streamWriteBurst_extends b).advances
  | writeSequence => exact .of_next h (.of_observed rfl)
  | flashBurst => exact .of_next h (s.streamFlashBurst_extends b).advances

theorem andThen_next {r : Result} {f : State → State} (h : andThen r f = .next t) : ∃ u, r = .next u ∧ t = f u := by
  cases r with
  | next u => exact ⟨u, rfl, (Host.Outcome.next.inj h).symm⟩
  | fault x => cases h
  | refused x => cases h

/-- Only after RX_TAKE can the dispatcher run an operation of its own, a command (R322, R326). -/
theorem mainResume_extends {p : MainPoint} (hp : ∀ use b, p ≠ .rxTake use b) (h : mainResume p s = .next t) :
    s.Extends t := by
  cases p with
  | rxTake use b => exact absurd rfl (hp use b)
  | attach | sleep | flush => exact .of_next h (.of_observed rfl)
  | top => exact .of_next h (.of_observed s.afterActive_observed)
  | resetExec => exact .of_next h (.of_observed s.afterResetExec_observed)
  | rxAcq use => exact .of_next h (.of_observed (s.afterRxAcq_observed use))
  | rxAcqAgain use => exact .of_next h (.of_observed (s.afterRxAcqAgain_observed use))
  | rxRead use => exact .of_next h (.of_observed (s.afterRxRead_observed use))
  | emitAcq v => exact .of_next h (.of_observed (s.afterEmitAcq_observed v))
  | emitPut v | burstPut v => exact .of_next h (.of_observed (State.dispatchPoint_observed _))
  | burstAcq => exact .of_next h s.afterBurstAcq_extends

theorem mainResume_rxTake_advances {use : RxUse} {b : Byte} (h : mainResume (.rxTake use b) s = .next t) :
    s.Advances t := by
  obtain ⟨u, hu, rfl⟩ := andThen_next h
  exact (useByte_advances hu).trans_extends (.of_observed u.dispatchPoint_observed)

/-- A firmware call and what follows it together make at most one move: RX_TAKE, the one call after which a command may
run, moves nothing itself. -/
theorem mainCall_resume_advances {p : MainPoint} {u : State} (hcall : exec (mainCall p) s = .next u)
    (hresume : mainResume p u = .next t) : s.Advances t := by
  by_cases hp : ∃ use b, p = .rxTake use b
  · obtain ⟨use, b, rfl⟩ := hp
    have htake : s.Extends u := .of_observed (observed_of_frame (execRxTake_frame hcall) rfl)
    exact htake.trans_advances (mainResume_rxTake_advances hresume)
  · exact (exec_advances hcall).trans_extends (mainResume_extends (fun use b e => hp ⟨use, b, e⟩) hresume)

theorem mainLoopStep_advances (h : mainLoopStep s = .next t) : s.Advances t := by
  rcases mainLoopStep_next h with ⟨-, rfl⟩ | ⟨-, -, p, -, rfl⟩ | ⟨-, -, u, hcall, hresume⟩
  · exact .of_observed rfl
  · have hpoll := (s.pollIteration_extends p).advances
    exact hpoll.trans_extends (.of_observed rfl)
  · exact mainCall_resume_advances hcall hresume

theorem runLine_advances {l : Line} (h : runLine l s = .next t) : s.Advances t := by
  unfold runLine at h
  split at h
  · exact exec_advances h
  · cases h

theorem step_advances (h : step s = .next t) : s.Advances t := by
  have htaken (rest : List Turn) : s.Extends (s.setPort rest) := .of_observed rfl
  unfold step nextTurn at h
  split at h
  · exact mainLoopStep_advances h
  · exact (htaken _).trans_advances (mainLoopStep_advances h)
  · exact (htaken _).trans_advances (runLine_advances h)

end MainLoop

/-- Settles O55, from the relation that every step satisfies. -/
theorem stateMovesInSequenceAndObservationsOnlyGrow : Obligations.StateMovesInSequenceAndObservationsOnlyGrow := by
  intro s t h
  have hadv := step_advances h
  exact ⟨hadv.state, hadv.wireIn, hadv.busTrace, hadv.cfg⟩

end Sys2Proof.Machine
end

section
/-! What an image can decode to: a line of the port to an operation of its own groups (30_encoding.md R118-R121), a command
image to a well-formed command (R127, R128). -/

namespace Sys2Proof

/-- A control request, format SETUP16 (R113). -/
def Instr.isRequest : Instr → Bool
  | .getStatus _ | .setAddress _ | .getDescriptor _ | .getConfiguration _ | .setConfiguration _ | .getInterface _
  | .setInterface _ | .sendEncapsulatedCommand _ | .getEncapsulatedResponse _ | .setLineCoding _ | .getLineCoding _
  | .setControlLineState _ | .vendorReset _ | .vendorIdentify _ => true
  | _ => false

/-- A command, format CMD8 (R128). -/
def Instr.isCommand : Instr → Bool
  | .ping _ _ | .unlock _ _ | .setMode _ _ | .getMode _ | .read _ _ | .readBurst _ _ _ | .write _ _ _
  | .writeBurst _ _ _ | .pollFlashData _ _ _ | .setFlashWriteSequence _ _ | .flashBurst _ _ _ | .diagnostics _
  | .reset _ _ | .identify _ => true
  | _ => false

/-- An operation of the port: an engine act, a firmware operation, IRQ or WATCHDOG (R119, R121). -/
def Instr.ofPort (i : Instr) : Prop := i.isRequest = false ∧ i.isCommand = false

/-- The case split over the operations of the port. -/
theorem Instr.ofPort_elim {motive : (i : Instr) → i.ofPort → Prop}
    (evSe0Exit : motive .evSe0Exit ⟨rfl, rfl⟩) (evBusReset : motive .evBusReset ⟨rfl, rfl⟩)
    (evIdle : motive .evIdle ⟨rfl, rfl⟩) (evActivity : motive .evActivity ⟨rfl, rfl⟩)
    (evError : ∀ classes, motive (.evError classes) ⟨rfl, rfl⟩)
    (evTrnSetup : ∀ packet, motive (.evTrnSetup packet) ⟨rfl, rfl⟩)
    (evTrnOut : ∀ ep half data, motive (.evTrnOut ep half data) ⟨rfl, rfl⟩)
    (evTrnIn : ∀ ep half, motive (.evTrnIn ep half) ⟨rfl, rfl⟩) (attach : motive .attach ⟨rfl, rfl⟩)
    (acqRx : motive .acqRx ⟨rfl, rfl⟩) (rxRead : ∀ index, motive (.rxRead index) ⟨rfl, rfl⟩)
    (rxTake : ∀ count, motive (.rxTake count) ⟨rfl, rfl⟩) (acqTx : motive .acqTx ⟨rfl, rfl⟩)
    (txPut : ∀ byte, motive (.txPut byte) ⟨rfl, rfl⟩) (flush : motive .flush ⟨rfl, rfl⟩)
    (isActive : motive .isActive ⟨rfl, rfl⟩) (csEnter : motive .csEnter ⟨rfl, rfl⟩)
    (csExit : motive .csExit ⟨rfl, rfl⟩) (sleep : motive .sleep ⟨rfl, rfl⟩)
    (resetExec : motive .resetExec ⟨rfl, rfl⟩) (irq : motive .irq ⟨rfl, rfl⟩)
    (watchdog : motive .watchdog ⟨rfl, rfl⟩)
    (i : Instr) (hi : i.ofPort) : motive i hi := by
  cases i with
  | evSe0Exit => exact evSe0Exit
  | evBusReset => exact evBusReset
  | evIdle => exact evIdle
  | evActivity => exact evActivity
  | evError classes => exact evError classes
  | evTrnSetup packet => exact evTrnSetup packet
  | evTrnOut ep half data => exact evTrnOut ep half data
  | evTrnIn ep half => exact evTrnIn ep half
  | attach => exact attach
  | acqRx => exact acqRx
  | rxRead index => exact rxRead index
  | rxTake count => exact rxTake count
  | acqTx => exact acqTx
  | txPut byte => exact txPut byte
  | flush => exact flush
  | isActive => exact isActive
  | csEnter => exact csEnter
  | csExit => exact csExit
  | sleep => exact sleep
  | resetExec => exact resetExec
  | irq => exact irq
  | watchdog => exact watchdog
  | getStatus _ | setAddress _ | getDescriptor _ | getConfiguration _ | setConfiguration _ | getInterface _
  | setInterface _ | sendEncapsulatedCommand _ | getEncapsulatedResponse _ | setLineCoding _ | getLineCoding _
  | setControlLineState _ | vendorReset _ | vendorIdentify _ => exact absurd hi.1 nofun
  | _ => exact absurd hi.2 nofun

theorem decodeBare_ok {arg : Byte} {payload : List Byte} {i j : Instr} (h : decodeBare arg payload j = .ok i) : i = j := by
  unfold decodeBare at h
  split at h
  · cases h
  · split at h
    · cases h
    · exact (Decoded.ok.inj h).symm

theorem decodeNoPayload_ok {payload : List Byte} {i j : Instr} (h : decodeNoPayload payload j = .ok i) : i = j := by
  unfold decodeNoPayload at h
  split at h
  · cases h
  · exact (Decoded.ok.inj h).symm

theorem decodeTrnArg_ok {p : Params} {arg : Byte} {k : Endpoint → Bit → Decoded} {i : Instr}
    (h : decodeTrnArg p arg k = .ok i) : ∃ ep half, k ep half = .ok i := by
  unfold decodeTrnArg at h
  split at h
  · cases h
  · split at h
    · cases h
    · split at h
      · exact ⟨_, _, h⟩
      · cases h

theorem decodeCounted_ok {payload : List Byte} {k : List Byte → Decoded} {i : Instr}
    (h : decodeCounted payload k = .ok i) : ∃ bytes, k bytes = .ok i := by
  unfold decodeCounted at h
  split at h
  · cases h
  · split at h
    · exact ⟨_, h⟩
    · cases h

theorem decodeEvent_ofPort {p : Params} {kind : BitVec 4} {arg : Byte} {payload : List Byte} {i : Instr}
    (h : decodeEvent p kind arg payload = .ok i) : i.ofPort := by
  unfold decodeEvent at h
  split at h
  case h_1 | h_2 | h_3 | h_4 => exact decodeBare_ok h ▸ ⟨rfl, rfl⟩
  case h_5 =>
    split at h
    · cases h
    · split at h
      · cases h
      · exact decodeNoPayload_ok h ▸ ⟨rfl, rfl⟩
  case h_6 =>
    split at h
    · cases h
    · split at h
      · cases h
      · split at h
        · cases h
        · exact Decoded.ok.inj h ▸ ⟨rfl, rfl⟩
  case h_7 =>
    obtain ⟨ep, half, h⟩ := decodeTrnArg_ok h
    obtain ⟨data, h⟩ := decodeCounted_ok h
    exact Decoded.ok.inj h ▸ ⟨rfl, rfl⟩
  case h_8 =>
    obtain ⟨ep, half, h⟩ := decodeTrnArg_ok h
    exact decodeNoPayload_ok h ▸ ⟨rfl, rfl⟩
  case h_9 => cases h

theorem decodeFirmware_ofPort {kind : BitVec 4} {arg : Byte} {payload : List Byte} {i : Instr}
    (h : decodeFirmware kind arg payload = .ok i) : i.ofPort := by
  unfold decodeFirmware at h
  split at h
  case h_3 | h_4 =>
    split at h
    · exact decodeNoPayload_ok h ▸ ⟨rfl, rfl⟩
    · cases h
  case h_6 => exact decodeNoPayload_ok h ▸ ⟨rfl, rfl⟩
  case h_13 => cases h
  all_goals exact decodeBare_ok h ▸ ⟨rfl, rfl⟩

theorem decodeSched_ofPort {kind : BitVec 4} {arg : Byte} {payload : List Byte} {i : Instr}
    (h : decodeSched kind arg payload = .ok i) : i.ofPort := by
  unfold decodeSched at h
  split at h
  case h_3 => cases h
  all_goals exact decodeBare_ok h ▸ ⟨rfl, rfl⟩

theorem decodeLine_ofPort {p : Params} {l : Line} {i : Instr} (h : decodeLine p l = .ok i) : i.ofPort := by
  unfold decodeLine at h
  split at h
  · exact decodeEvent_ofPort h
  · exact decodeFirmware_ofPort h
  · exact decodeSched_ofPort h
  · cases h

theorem decodeHeader_isCommand {id : BitVec 5} {mods : BitVec 3} {header : List Byte} {i : Instr}
    (h : decodeHeader id mods header = .ok i) : i.isCommand = true ∧ i.wellFormed = true := by
  unfold decodeHeader at h
  generalize id.toNat = n at h
  split at h
  case h_1 | h_2 =>
    obtain ⟨hlen, rfl⟩ := header16_ok h
    exact ⟨rfl, decide_eq_true hlen⟩
  case h_3 | h_10 | h_13 =>
    obtain ⟨_, -, rfl⟩ := header1_ok h
    exact ⟨rfl, rfl⟩
  case h_4 | h_12 | h_14 =>
    obtain ⟨-, rfl⟩ := header0_ok h
    exact ⟨rfl, rfl⟩
  case h_5 =>
    obtain ⟨_, _, -, rfl⟩ := headerAddr_ok h
    exact ⟨rfl, rfl⟩
  case h_6 | h_8 | h_11 =>
    obtain ⟨_, _, _, _, -, rfl⟩ := headerAddrLen_ok h
    exact ⟨rfl, rfl⟩
  case h_7 | h_9 =>
    obtain ⟨_, _, _, -, rfl⟩ := headerAddrByte_ok h
    exact ⟨rfl, rfl⟩
  case h_15 => cases h

theorem decodeCommand_ok {bytes : List Byte} {i : Instr} (h : decodeCommand bytes = .ok i) :
    ∃ c header, bytes = c :: header ∧ decodeHeader (commandId c) (commandMods c) header = .ok i := by
  unfold decodeCommand at h
  split at h
  · cases h
  · split at h
    · cases h
    · exact ⟨_, _, rfl, h⟩

/-- Only commands come out of the command bytes, and with a header of the length of R128. -/
theorem decodeCommand_isCommand {bytes : List Byte} {i : Instr} (h : decodeCommand bytes = .ok i) :
    i.isCommand = true ∧ i.wellFormed = true := by
  obtain ⟨c, header, -, h⟩ := decodeCommand_ok h
  exact decodeHeader_isCommand h

end Sys2Proof
end

section
/-! What the commands and the main loop's own program leave alone, and with it one rule for every invariant of the block: a
step keeps what the operations of the port keep (43_command_protocol.md R320-R346). -/

namespace Sys2Proof.Machine

/-! ### The block beside the command session -/

/-- The fields of the block that only engine acts, interrupt handlers and firmware operations write: no command and no
computation of the dispatcher touches them. -/
structure Block where
  devState : DevPhase
  suspended : Bool
  address : BitVec 7
  asleep : Bool
  irq : Irq
  bd : BdTable
  buf : Memory
  pipeArmed : Bool
  rx : Rx
  tx : Tx
  lc : List Byte
  sie : Sie
  cfg : Params

def State.block (s : State) : Block :=
  { devState := s.dev.state, suspended := s.dev.suspended, address := s.dev.address, asleep := s.main.asleep,
    irq := s.irq, bd := s.bd, buf := s.buf, pipeArmed := s.pipeArmed, rx := s.rx, tx := s.tx, lc := s.lc, sie := s.sie,
    cfg := s.cfg }

/-- What the dispatcher's own computation leaves: the block, the lock, and the sizes of the session's records. -/
structure Lasting where
  block : Block
  unlocked : Bool
  resetReason : Byte
  hdrLength : Nat
  recsLength : Nat
  recsUsed : Nat

def State.lasting (s : State) : Lasting :=
  { block := s.block, unlocked := s.sess.unlocked, resetReason := s.resetReason, hdrLength := s.sess.hdr.length,
    recsLength := s.flashseq.recs.length, recsUsed := s.flashseq.count }

theorem block_of_lasting {s t : State} (h : t.lasting = s.lasting) : t.block = s.block := congrArg Lasting.block h

theorem unlocked_of_lasting {s t : State} (h : t.lasting = s.lasting) : t.sess.unlocked = s.sess.unlocked :=
  congrArg Lasting.unlocked h

/-- The session may change in everything but the lock and the room for header bytes. -/
theorem lasting_setSess {s : State} {x : Sess} (hunlocked : x.unlocked = s.sess.unlocked)
    (hhdr : x.hdr.length = s.sess.hdr.length) : (s.setSess x).lasting = s.lasting := by
  simp [State.lasting, State.block, hunlocked, hhdr]

theorem setPort_lasting (s : State) (rest : List Turn) : (s.setPort rest).lasting = s.lasting := rfl

/-! ### The cartridge bus (20_memory.md R97) -/

@[simp] theorem State.oracleNext_lasting (s : State) : s.oracleNext.lasting = s.lasting := by
  unfold State.oracleNext
  split <;> rfl

@[simp] theorem State.busRead_lasting (s : State) (a : Word) (cs ce : Bool) :
    (s.busRead a cs ce).2.lasting = s.lasting :=
  State.oracleNext_lasting _

@[simp] theorem State.pinRead_lasting (s : State) : s.pinRead.2.lasting = s.lasting := State.oracleNext_lasting _

theorem State.busWrite_lasting (s : State) (a : Word) (b : Byte) (cs alt : Bool) :
    (s.busWrite a b cs alt).lasting = s.lasting := rfl

/-! ### Commands (43_command_protocol.md R324-R344) -/

@[simp] theorem State.setOut_lasting (s : State) (bs : List Byte) : (s.setOut bs).lasting = s.lasting := by
  unfold State.setOut
  split <;> rfl

/-- What the work of a command `i` at `exec_begin()` can change beside the session's course (R330-R344): UNLOCK with the
right key the lock, RESET the persisted byte, SET_FLASH_WRITE_SEQUENCE how many records are in use. -/
structure CommandWorks (i : Instr) (u v : State) : Prop where
  block : v.block = u.block
  hdrLength : v.sess.hdr.length = u.sess.hdr.length
  recsLength : v.flashseq.recs.length = u.flashseq.recs.length
  recsUsed : v.flashseq.count = u.flashseq.count ∨ v.flashseq.count ≤ 16
  unlocked : v.sess.unlocked = u.sess.unlocked ∨ (v.sess.unlocked = true ∧ ∃ mods, i = .unlock mods u.cfg.unlockKey)
  resetReason : v.resetReason = u.resetReason ∨ (v.dev.pendingReset = true ∧ ∃ mods magic, i = .reset mods magic)

theorem CommandWorks.of_lasting {i : Instr} {u v : State} (h : v.lasting = u.lasting) : CommandWorks i u v where
  block := congrArg Lasting.block h
  hdrLength := congrArg Lasting.hdrLength h
  recsLength := congrArg Lasting.recsLength h
  recsUsed := .inl (congrArg Lasting.recsUsed h)
  unlocked := .inl (congrArg Lasting.unlocked h)
  resetReason := .inl (congrArg Lasting.resetReason h)

/-- UNLOCK's own work (R331). -/
theorem unlock_works (mods : BitVec 3) (key : List Byte) (u : State) :
    CommandWorks (.unlock mods key) u
      (if key = u.cfg.unlockKey then (u.setSess { u.sess with unlocked := true }).setOut key else u.finishCommand) := by
  split
  · rename_i hkey
    have hout := (u.setSess { u.sess with unlocked := true }).setOut_lasting key
    exact { CommandWorks.of_lasting hout with unlocked := .inr ⟨congrArg Lasting.unlocked hout, mods, by rw [hkey]⟩ }
  · exact .of_lasting rfl

/-- SET_FLASH_WRITE_SEQUENCE's own work (R340). -/
theorem setFlashWriteSequence_works (mods : BitVec 3) (n : Byte) (u : State) :
    CommandWorks (.setFlashWriteSequence mods n) u
      (if 16 < n.toNat then u.finishCommand
        else (u.setFlashseq { u.flashseq with count := n.toNat }).setSess
          { u.sess with count := BitVec.ofNat 16 (3 * n.toNat), step := 0 }) := by
  split
  · exact .of_lasting rfl
  · rename_i hn
    exact ⟨rfl, rfl, rfl, .inr (Nat.le_of_not_lt hn), .inl rfl, .inl rfl⟩

/-- A command is the start of R326 with its own header, of at most 16 bytes, and its own work. -/
structure StartsCommand (i : Instr) (id : BitVec 5) (mods : BitVec 3) (header : List Byte) (f : State → State) : Prop where
  exec_eq (s : State) : exec i s = startCommand id mods header f s
  headerLength : i.wellFormed = true → header.length ≤ 16
  works (u : State) : CommandWorks i u (f u)

theorem startsCommand_of_lasting {i : Instr} {id : BitVec 5} {mods : BitVec 3} {header : List Byte} {f : State → State}
    (hexec : ∀ s, exec i s = startCommand id mods header f s) (hlen : header.length ≤ 16)
    (hf : ∀ u, (f u).lasting = u.lasting) : ∃ id mods header f, StartsCommand i id mods header f :=
  ⟨id, mods, header, f, hexec, fun _ => hlen, fun u => .of_lasting (hf u)⟩

theorem exec_command {i : Instr} (hi : i.isCommand = true) : ∃ id mods header f, StartsCommand i id mods header f := by
  cases i with
  | ping mods data =>
    have hlen (hw : (Instr.ping mods data).wellFormed = true) : data.length ≤ 16 := le_of_eq (eq_of_beq hw)
    exact ⟨_, _, _, _, execPing.eq_1 _ _, hlen, fun u => .of_lasting (u.setOut_lasting _)⟩
  | unlock mods key =>
    have hlen (hw : (Instr.unlock mods key).wellFormed = true) : key.length ≤ 16 := le_of_eq (eq_of_beq hw)
    exact ⟨_, _, _, _, execUnlock.eq_1 _ _, hlen, unlock_works mods key⟩
  | setFlashWriteSequence mods n =>
    exact ⟨_, _, _, _, execSetFlashWriteSequence.eq_1 _ _, fun _ => by simp, setFlashWriteSequence_works mods n⟩
  | reset mods magic =>
    exact ⟨_, _, _, _, execReset.eq_1 _ _, fun _ => by simp,
      fun u => ⟨rfl, rfl, rfl, .inl rfl, .inl rfl, .inr ⟨rfl, _, _, rfl⟩⟩⟩
  | diagnostics _ => exact startsCommand_of_lasting (execDiagnostics.eq_1 _) (by simp) fun _ => State.setOut_lasting _ _
  | identify _ => exact startsCommand_of_lasting (execIdentify.eq_1 _) (by simp) fun _ => State.setOut_lasting _ _
  | getMode _ => exact startsCommand_of_lasting (execGetMode.eq_1 _) (by simp) fun u => (State.setOut_lasting _ _).trans u.pinRead_lasting
  | read _ _ => exact startsCommand_of_lasting (execRead.eq_1 _ _) (by simp [addrBytes]) fun u => (State.setOut_lasting _ _).trans (u.busRead_lasting _ _ _)
  | setMode _ _ => exact startsCommand_of_lasting (execSetMode.eq_1 _ _) (by simp) fun _ => rfl
  | write _ _ _ => exact startsCommand_of_lasting (execWrite.eq_1 _ _ _) (by simp [addrBytes]) fun _ => rfl
  | readBurst _ _ _ => exact startsCommand_of_lasting (execReadBurst.eq_1 _ _ _) (by simp [addrBytes]) fun _ => rfl
  | writeBurst _ _ _ => exact startsCommand_of_lasting (execWriteBurst.eq_1 _ _ _) (by simp [addrBytes]) fun _ => rfl
  | flashBurst _ _ _ => exact startsCommand_of_lasting (execFlashBurst.eq_1 _ _ _) (by simp [addrBytes]) fun _ => rfl
  | pollFlashData _ _ _ => exact startsCommand_of_lasting (execPollFlashData.eq_1 _ _ _) (by simp [addrBytes]) fun _ => rfl
  | _ => cases hi

/-- What a command can do: it begins and does its work, or it is discarded or not enabled (R324, R346). -/
theorem command_next {i : Instr} (hi : i.isCommand = true) {s t : State} (h : exec i s = .next t) :
    (∃ r, t = s.setRet r) ∨
    (s.sess.phase ≠ .exec ∧ ∃ c header u, (i.wellFormed = true → header.length ≤ 16) ∧
      CommandWorks i (s.enterExec c header) u ∧ t = u.setRet .none) := by
  obtain ⟨id, mods, header, f, hexec, hlen, hworks⟩ := exec_command hi
  rw [hexec] at h
  rcases startCommand_cases id mods header f s with ⟨hp, hr⟩ | ⟨-, -, -, hr⟩ | ⟨-, hr⟩ <;>
    obtain rfl := Host.Outcome.next.inj (hr.symm.trans h)
  · exact .inr ⟨hp, _, header, _, hlen, hworks _, rfl⟩
  · exact .inl ⟨_, rfl⟩
  · exact .inl ⟨_, rfl⟩

/-- No command touches the block (R330-R344): a staged reset only sets `dev.pending_reset`. -/
theorem block_of_command {i : Instr} (hi : i.isCommand = true) {s t : State} (h : exec i s = .next t) :
    t.block = s.block := by
  rcases command_next hi h with ⟨r, rfl⟩ | ⟨-, c, header, u, -, hwork, rfl⟩
  · rfl
  · exact hwork.block

/-- No command faults (R346: what it cannot do it discards). -/
theorem command_ne_fault {i : Instr} (hi : i.isCommand = true) {s : State} {x : Fault} : exec i s ≠ .fault x := by
  obtain ⟨id, mods, header, f, hexec, -, -⟩ := exec_command hi
  intro h
  rw [hexec] at h
  rcases startCommand_cases id mods header f s with ⟨-, hr⟩ | ⟨-, -, -, hr⟩ | ⟨-, hr⟩ <;> cases hr.symm.trans h

/-! ### The dispatcher's computation (43_command_protocol.md R320-R341) -/

@[simp] theorem State.dispatchPoint_lasting (s : State) : s.dispatchPoint.lasting = s.lasting := by
  rcases s.dispatchPoint_cases with ⟨p, h⟩ | h | h <;> rw [h] <;> rfl

theorem State.afterActive_lasting (s : State) : s.afterActive.lasting = s.lasting := by
  unfold State.afterActive
  split
  · exact s.dispatchPoint_lasting
  · split
    · rfl
    · split <;> rfl

theorem State.afterResetExec_lasting (s : State) : s.afterResetExec.lasting = s.lasting := by
  unfold State.afterResetExec
  split <;> rfl

theorem State.afterRxAcq_lasting (s : State) (use : RxUse) : (s.afterRxAcq use).lasting = s.lasting := by
  unfold State.afterRxAcq
  split <;> rfl

theorem State.afterRxAcqAgain_lasting (s : State) (use : RxUse) : (s.afterRxAcqAgain use).lasting = s.lasting := by
  unfold State.afterRxAcqAgain
  split <;> rfl

theorem State.afterRxRead_lasting (s : State) (use : RxUse) : (s.afterRxRead use).lasting = s.lasting := by
  unfold State.afterRxRead
  split <;> rfl

theorem State.afterEmitAcq_lasting (s : State) (v : Byte) : (s.afterEmitAcq v).lasting = s.lasting := by
  unfold State.afterEmitAcq
  split <;> rfl

theorem State.afterBurstAcq_lasting (s : State) : s.afterBurstAcq.lasting = s.lasting := by
  unfold State.afterBurstAcq
  split
  · exact s.busRead_lasting _ _ _
  · rfl

theorem State.streamWriteSequence_lasting (s : State) (b : Byte) : (s.streamWriteSequence b).lasting = s.lasting := by
  simp [State.streamWriteSequence, State.lasting, State.block]

theorem State.replay_lasting (s : State) (rs : List WriteRec) : (s.replay rs).lasting = s.lasting := by
  induction rs generalizing s with
  | nil => rfl
  | cons r rs ih => exact (ih _).trans (s.busWrite_lasting _ _ _ _)

theorem State.streamFlashBurst_lasting (s : State) (b : Byte) : (s.streamFlashBurst b).lasting = s.lasting := by
  unfold State.streamFlashBurst
  dsimp only
  split
  · rfl
  · exact State.replay_lasting s.advanceBurst (s.flashseq.recs.take s.flashseq.count)

theorem State.pollIteration_lasting (s : State) (p : Poll) : (s.pollIteration p).lasting = s.lasting := by
  have hreads := (State.busRead_lasting _ p.addr p.cs false).trans (s.busRead_lasting p.addr p.cs false)
  unfold State.pollIteration
  dsimp only
  split
  · have hended := (lasting_setSess rfl rfl).trans hreads
    split
    · exact (lasting_setSess rfl rfl).trans hended
    · exact hended
  · exact hreads

theorem beginCommand_next {bytes : List Byte} {s t : State} (h : beginCommand bytes s = .next t) :
    t.lasting = s.lasting ∨ ∃ i, decodeCommand bytes = .ok i ∧ exec i s = .next t := by
  unfold beginCommand at h
  split at h
  · exact .inr ⟨_, by assumption, h⟩
  · exact .inl (Host.Outcome.next.inj h ▸ rfl)

theorem startCommandByte_next {b : Byte} {s t : State} (h : startCommandByte b s = .next t) :
    t.lasting = s.lasting ∨ ∃ i, decodeCommand [b] = .ok i ∧ exec i s = .next t := by
  unfold startCommandByte at h
  split at h
  · exact .inl (Host.Outcome.next.inj h ▸ rfl)
  · split at h
    · exact .inl (Host.Outcome.next.inj h ▸ rfl)
    · split at h
      · exact beginCommand_next h
      · exact .inl (Host.Outcome.next.inj h ▸ rfl)

/-- The session with a header byte stored (R325). -/
def State.storeHeader (s : State) (b : Byte) : State :=
  s.setSess { s.sess with hdr := s.sess.hdr.set s.sess.hdrFill b, hdrFill := s.sess.hdrFill + 1 }

@[simp] theorem State.storeHeader_lasting (s : State) (b : Byte) : (s.storeHeader b).lasting = s.lasting := by
  exact lasting_setSess rfl List.length_set

/-- The bytes of the command whose last header byte is `b` (R325). -/
def State.commandBytes (s : State) (b : Byte) : List Byte :=
  s.sess.cmd :: (s.sess.hdr.set s.sess.hdrFill b).take ((headerLen (commandId s.sess.cmd)).getD 0)

theorem headerByte_next {b : Byte} {s t : State} (h : headerByte b s = .next t) :
    t.lasting = s.lasting ∨ (s.sess.hdrFill + 1 = s.sess.hdrNeed ∧
      ∃ i, decodeCommand (s.commandBytes b) = .ok i ∧ exec i (s.storeHeader b) = .next t) := by
  unfold headerByte at h
  dsimp only at h
  split at h
  · rename_i hlast
    rcases beginCommand_next h with h | h
    · exact .inl (h.trans (s.storeHeader_lasting b))
    · exact .inr ⟨hlast, h⟩
  · exact .inl (Host.Outcome.next.inj h ▸ s.storeHeader_lasting b)

/-- Where the byte that the dispatcher has taken does not complete a command, it leaves what lasts; where it does, the
command it decodes to is executed (R324-R326). -/
theorem useByte_next {use : RxUse} {b : Byte} {s t : State} (h : useByte use b s = .next t) :
    t.lasting = s.lasting ∨
    ∃ bytes i, decodeCommand bytes = .ok i ∧
      ((use = .id ∧ bytes = [b] ∧ exec i s = .next t) ∨
       (use = .header ∧ s.sess.hdrFill + 1 = s.sess.hdrNeed ∧
        bytes = s.commandBytes b ∧ exec i (s.storeHeader b) = .next t)) := by
  cases use with
  | writeBurst => exact .inl (Host.Outcome.next.inj h ▸ rfl)
  | writeSequence => exact .inl (Host.Outcome.next.inj h ▸ s.streamWriteSequence_lasting b)
  | flashBurst => exact .inl (Host.Outcome.next.inj h ▸ s.streamFlashBurst_lasting b)
  | id =>
    rcases startCommandByte_next h with h | ⟨i, hi, h⟩
    · exact .inl h
    · exact .inr ⟨_, i, hi, .inl ⟨rfl, rfl, h⟩⟩
  | header =>
    rcases headerByte_next h with h | ⟨hlast, i, hi, h⟩
    · exact .inl h
    · exact .inr ⟨_, i, hi, .inr ⟨rfl, hlast, rfl, h⟩⟩

/-- Only after RX_TAKE can a command run; otherwise what follows a call leaves what lasts (R321-R323, R328, R335). -/
theorem mainResume_next {p : MainPoint} {s t : State} (h : mainResume p s = .next t) :
    t.lasting = s.lasting ∨
    ∃ use b u, p = .rxTake use b ∧ useByte use b s = .next u ∧ t.lasting = u.lasting := by
  cases p with
  | rxTake use b =>
    obtain ⟨u, hu, rfl⟩ := andThen_next h
    exact .inr ⟨use, b, u, rfl, hu, u.dispatchPoint_lasting⟩
  | attach | sleep | flush => exact .inl (Host.Outcome.next.inj h ▸ rfl)
  | top => exact .inl (Host.Outcome.next.inj h ▸ s.afterActive_lasting)
  | resetExec => exact .inl (Host.Outcome.next.inj h ▸ s.afterResetExec_lasting)
  | rxAcq use => exact .inl (Host.Outcome.next.inj h ▸ s.afterRxAcq_lasting use)
  | rxAcqAgain use => exact .inl (Host.Outcome.next.inj h ▸ s.afterRxAcqAgain_lasting use)
  | rxRead use => exact .inl (Host.Outcome.next.inj h ▸ s.afterRxRead_lasting use)
  | emitAcq v => exact .inl (Host.Outcome.next.inj h ▸ s.afterEmitAcq_lasting v)
  | emitPut v | burstPut v => exact .inl (Host.Outcome.next.inj h ▸ State.dispatchPoint_lasting _)
  | burstAcq => exact .inl (Host.Outcome.next.inj h ▸ s.afterBurstAcq_lasting)

/-! ### A step -/

theorem mainCall_ofPort (p : MainPoint) : (mainCall p).ofPort := by
  cases p <;> exact ⟨rfl, rfl⟩

/-- What a turn of the main loop can do: nothing that lasts; or its call, with nothing that lasts after it; or RX_TAKE and
the command that the byte it took completes. -/
theorem mainLoopStep_cases {s t : State} (h : mainLoopStep s = .next t) :
    t.lasting = s.lasting ∨
    (s.main.asleep = false ∧ ∃ u, exec (mainCall s.main.point) s = .next u ∧
      (t.lasting = u.lasting ∨
        ∃ use b v, s.main.point = .rxTake use b ∧ useByte use b u = .next v ∧ t.lasting = v.lasting)) := by
  rcases mainLoopStep_next h with ⟨-, rfl⟩ | ⟨-, -, p, -, rfl⟩ | ⟨ha, -, u, hcall, hresume⟩
  · exact .inl rfl
  · exact .inl (s.pollIteration_lasting p)
  · exact .inr ⟨ha, u, hcall, mainResume_next hresume⟩

/-- A step runs the line at the head of the port, or a turn of the main loop (log 1). -/
theorem step_next {s t : State} (h : step s = .next t) :
    (∃ l rest i, s.port = .line l :: rest ∧ i.ofPort ∧ exec i (s.setPort rest) = .next t) ∨
    ((s.port = [] ∨ s.port.head? = some .mainLoop) ∧ ∃ rest, mainLoopStep (s.setPort rest) = .next t) := by
  unfold step nextTurn at h
  split at h
  · rename_i hport
    have hs : s.setPort [] = s := hport ▸ rfl
    exact .inr ⟨.inl hport, [], by rw [hs]; exact h⟩
  · rename_i rest hport
    exact .inr ⟨.inr (by rw [hport]; rfl), rest, h⟩
  · rename_i l rest hport
    unfold runLine at h
    split at h
    · rename_i i hi
      exact .inl ⟨l, rest, i, hport, decodeLine_ofPort hi, h⟩
    · cases h

/-- The induction that every invariant shares: what the operations of the port keep, the commands keep, and the dispatcher's
computation cannot disturb, every step keeps. -/
theorem step_keeps {P : State → Prop} (hlasting : ∀ {s t : State}, t.lasting = s.lasting → P s → P t)
    (hport : ∀ {i : Instr} {s t : State}, i.ofPort → exec i s = .next t → P s → P t)
    (hcommand : ∀ {i : Instr} {s t : State}, i.isCommand = true → i.wellFormed = true → exec i s = .next t → P s → P t)
    {s t : State} (h : step s = .next t) (hs : P s) : P t := by
  rcases step_next h with ⟨l, rest, i, -, hi, h⟩ | ⟨-, rest, h⟩
  · exact hport hi h (hlasting (setPort_lasting s rest) hs)
  · have hs : P (s.setPort rest) := hlasting (setPort_lasting s rest) hs
    rcases mainLoopStep_cases h with h | ⟨-, u, hcall, hafter⟩
    · exact hlasting h hs
    · have hu : P u := hport (mainCall_ofPort _) hcall hs
      rcases hafter with h | ⟨use, b, v, -, hbyte, h⟩
      · exact hlasting h hu
      · refine hlasting h ?_
        rcases useByte_next hbyte with h | ⟨bytes, i, hi, ⟨-, -, h⟩ | ⟨-, -, -, h⟩⟩
        · exact hlasting h hu
        · exact hcommand (decodeCommand_isCommand hi).1 (decodeCommand_isCommand hi).2 h hu
        · exact hcommand (decodeCommand_isCommand hi).1 (decodeCommand_isCommand hi).2 h
            (hlasting (u.storeHeader_lasting b) hu)

/-- An invariant of the block alone needs only the operations of the port. -/
theorem step_keeps_block {P : State → Prop} (hblock : ∀ {s t : State}, t.block = s.block → P s → P t)
    (hport : ∀ {i : Instr} {s t : State}, i.ofPort → exec i s = .next t → P s → P t)
    {s t : State} (h : step s = .next t) (hs : P s) : P t :=
  step_keeps (fun h => hblock (block_of_lasting h)) hport (fun hi _ h => hblock (block_of_command hi h)) h hs

/-! ### Where a step can fault -/

theorem next_ne_fault {s : State} {x : Fault} : (.next s : Result) ≠ .fault x := nofun

theorem beginCommand_ne_fault {bytes : List Byte} {s : State} {x : Fault} : beginCommand bytes s ≠ .fault x := by
  unfold beginCommand
  split
  · rename_i hi
    exact command_ne_fault (decodeCommand_isCommand hi).1
  · exact next_ne_fault

theorem useByte_ne_fault {use : RxUse} {b : Byte} {s : State} {x : Fault} : useByte use b s ≠ .fault x := by
  cases use with
  | writeBurst | writeSequence | flashBurst => exact next_ne_fault
  | id =>
    show startCommandByte b s ≠ .fault x
    unfold startCommandByte
    split
    · exact next_ne_fault
    · split
      · exact next_ne_fault
      · split
        · exact beginCommand_ne_fault
        · exact next_ne_fault
  | header =>
    show headerByte b s ≠ .fault x
    unfold headerByte
    dsimp only
    split
    · exact beginCommand_ne_fault
    · exact next_ne_fault

theorem mainResume_ne_fault {p : MainPoint} {s : State} {x : Fault} : mainResume p s ≠ .fault x := by
  cases p with
  | rxTake use b =>
    intro h
    change andThen (useByte use b s) State.dispatchPoint = .fault x at h
    unfold andThen at h
    split at h
    · cases h
    · rename_i hbyte
      exact useByte_ne_fault hbyte
    · cases h
  | _ => exact next_ne_fault

theorem mainLoopStep_fault {s : State} {x : Fault} (h : mainLoopStep s = .fault x) :
    exec (mainCall s.main.point) s = .fault x := by
  unfold mainLoopStep at h
  split at h
  · cases h
  · split at h
    · cases h
    · split at h
      · exact absurd h mainResume_ne_fault
      · rename_i hcall
        exact hcall.trans h
      · cases h

/-- Where a step faults, an operation of the port does: commands do not, and the dispatcher does not. -/
theorem step_fault {s : State} {x : Fault} (h : step s = .fault x) :
    ∃ i u, i.ofPort ∧ u.lasting = s.lasting ∧ exec i u = .fault x := by
  unfold step nextTurn at h
  split at h
  · exact ⟨_, s, mainCall_ofPort _, rfl, mainLoopStep_fault h⟩
  · exact ⟨_, _, mainCall_ofPort _, setPort_lasting _ _, mainLoopStep_fault h⟩
  · unfold runLine at h
    split at h
    · rename_i hi
      exact ⟨_, _, decodeLine_ofPort hi, setPort_lasting _ _, h⟩
    · cases h

end Sys2Proof.Machine
end

section
/-! What the handlers of endpoint 0 can do (41_control_transfer.md R200-R229), said once: everything but SET_CONFIGURATION's
work on the pipe is a chain of moves that stay on endpoint 0. -/

namespace Sys2Proof.Machine

/-! ### Moves on endpoint 0 -/

/-- `t` comes from `s` by writes to endpoint 0's descriptors (within their capacity) and IN buffer, to the control-transfer
group, to the line coding (its size kept) and to what a request may write of the device group and the persisted byte. -/
inductive OnEp0 (s : State) : State → Prop
  | refl : OnEp0 s s
  | ctl {u : State} (h : OnEp0 s u) (c : Ctl) : OnEp0 s (u.setCtl c)
  | desc {u : State} (h : OnEp0 s u) (d : DescId) (v : Bd) (hd : d = .ep0Out ∨ d = .ep0In)
      (hv : v.count = (u.desc d).count ∨ v.count.toNat ≤ capacity u.cfg d) : OnEp0 s (u.setDesc d v)
  | bytes {u : State} (h : OnEp0 s u) (bs : List Byte) (hbs : bs.length ≤ 64) : OnEp0 s (u.writeBufs .ep0In 0 bs)
  | lc {u : State} (h : OnEp0 s u) (l : List Byte) (hl : l.length = u.lc.length) : OnEp0 s (u.setLc l)
  | dev {u : State} (h : OnEp0 s u) (v : Dev) (hstate : v.state = u.dev.state) (hsusp : v.suspended = u.dev.suspended) :
      OnEp0 s (u.setDev v)
  | reason {u : State} (h : OnEp0 s u) (m : Byte) : OnEp0 s (u.setResetReason m)
  | ret {u : State} (h : OnEp0 s u) (r : Ret) : OnEp0 s (u.setRet r)

theorem ep0Size_bytes_le (z : Ep0Size) : z.bytes ≤ 64 := by
  cases z <;> decide

theorem toNat_ofNat10_le (n : Nat) : (BitVec.ofNat 10 n).toNat ≤ n :=
  (BitVec.toNat_ofNat n 10).trans_le (Nat.mod_le _ _)

section Moves
variable {s u : State}

/-- Arming a descriptor of endpoint 0 with a count its buffer holds (R86, R40). -/
theorem OnEp0.armStall (h : OnEp0 s u) {d : DescId} (hd : d = .ep0Out ∨ d = .ep0In) {n : Nat}
    (hn : n ≤ u.cfg.ep0Size.bytes) (t : Bit) (stall : Bool) : OnEp0 s (u.armStall d n t stall) := by
  refine .desc h d _ hd (.inr ((toNat_ofNat10_le n).trans ?_))
  rcases hd with rfl | rfl <;> exact hn

theorem OnEp0.stallEp0 (h : OnEp0 s u) : OnEp0 s u.stallEp0 :=
  have hin := h.armStall (d := .ep0In) (.inr rfl) (Nat.zero_le _) false true
  (hin.armStall (d := .ep0Out) (.inl rfl) (le_refl _) false true).ctl _

theorem OnEp0.statusIn (h : OnEp0 s u) : OnEp0 s u.statusIn :=
  have hin := h.armStall (d := .ep0In) (.inr rfl) (Nat.zero_le _) true false
  hin.armStall (d := .ep0Out) (.inl rfl) (le_refl _) false false

theorem State.inChunk_length_le (s : State) : s.inChunk.length ≤ 64 := by
  have hsize := ep0Size_bytes_le s.cfg.ep0Size
  simp only [State.inChunk, List.length_take]
  omega

theorem OnEp0.sendInChunk (h : OnEp0 s u) : OnEp0 s u.sendInChunk := by
  have hbytes := h.bytes u.inChunk u.inChunk_length_le
  have hfits : min u.ctl.remaining.toNat u.cfg.ep0Size.bytes ≤ (u.writeBufs .ep0In 0 u.inChunk).cfg.ep0Size.bytes := by
    rw [State.writeBufs_cfg]
    exact Nat.min_le_right _ _
  exact (hbytes.armStall (d := .ep0In) (.inr rfl) hfits u.ctl.toggle false).ctl _

theorem OnEp0.startIn (h : OnEp0 s u) (kind : SrcKind) (src : Src) (w : Word) : OnEp0 s (u.startIn kind src w) := by
  refine (h.ctl _).sendInChunk.armStall (.inl rfl) ?_ true false
  rw [State.sendInChunk_cfg]

theorem OnEp0.startOut (h : OnEp0 s u) (dest : Option RamRef) (w : Word) : OnEp0 s (u.startOut dest w) :=
  (h.ctl _).armStall (.inl rfl) (le_refl _) true false

theorem OnEp0.beginSetup (h : OnEp0 s u) : OnEp0 s u.beginSetup :=
  (h.ctl Ctl.idle).desc .ep0In _ (.inr rfl) (.inl rfl)

theorem OnEp0.startStage (h : OnEp0 s u) (a : Answer) (w : Word) : OnEp0 s (u.startStage a w) := by
  cases a with
  | stall => exact h.stallEp0
  | noData => exact h.statusIn
  | dataIn kind src => exact h.startIn kind src w
  | dataOut dest =>
    unfold State.startStage
    dsimp only
    split
    · exact h.statusIn
    · exact h.startOut dest w

theorem OnEp0.applyAddress (h : OnEp0 s u) : OnEp0 s u.applyAddress := by
  unfold State.applyAddress
  split
  · refine (h.dev _ ?_ ?_).ctl _ <;> rfl
  · exact h

theorem storeLc_length (lc bs : List Byte) (i : Nat) : (storeLc lc i bs).length = lc.length := by
  induction bs generalizing lc i with
  | nil => rfl
  | cons b bs ih =>
    rw [storeLc, ih]
    split
    · exact List.length_set
    · rfl

theorem OnEp0.storeOut (h : OnEp0 s u) (k : Nat) : OnEp0 s (u.storeOut k) := by
  unfold State.storeOut
  split
  · exact h.lc _ (storeLc_length _ _ _)
  · exact h

end Moves

/-! ### Requests (R202-R221) -/

/-- What a request does between the start of the SETUP step and its stage: one of the five side effects, or nothing. -/
inductive SetupWork (s : State) : Instr → State → Prop
  | nothing (i : Instr) : SetupWork s i s.beginSetup
  | address (i : Instr) (a : BitVec 7) :
      SetupWork s i (s.beginSetup.setCtl { s.beginSetup.ctl with pendingAddress := some a })
  | lineState (i : Instr) (b : Bool) : SetupWork s i (s.beginSetup.setDev { s.beginSetup.dev with lineState := b })
  | stageReset (q : SetupFields) : SetupWork s (.vendorReset q) (s.beginSetup.stageReset (magicOperand q))
  | configure (i : Instr) (h : s.bulkInFlight = false) :
      SetupWork s i (s.beginSetup.setDev { s.beginSetup.dev with configured := true }).pipeSetup
  | deconfigure (i : Instr) (h : s.bulkInFlight = false) :
      SetupWork s i (s.beginSetup.setDev { s.beginSetup.dev with configured := false }).pipeTeardown

/-- A SETUP step as the request `i`: the work, then the stage that its answer asks for (R201). -/
def SetupStep (s : State) (i : Instr) (t : State) : Prop :=
  ∃ u a w, SetupWork s i u ∧ t = (u.startStage a w).setRet .none

section Requests
variable {s t : State} {q : SetupFields} {i : Instr}

theorem SetupStep.of_answerSetup {a : Answer} (h : answerSetup a q s = .next t) : SetupStep s i t :=
  ⟨_, a, q.wLength, .nothing i, (Host.Outcome.next.inj h).symm⟩

theorem SetupStep.of_work {u : State} {a : Answer} {w : Word} (hwork : SetupWork s i u)
    (h : returnFromInterrupt (u.startStage a w) = .next t) : SetupStep s i t :=
  ⟨u, a, w, hwork, (Host.Outcome.next.inj h).symm⟩

theorem SetupStep.of_stallSetup (h : stallSetup s = .next t) : SetupStep s i t :=
  ⟨_, .stall, 0#16, .nothing i, (Host.Outcome.next.inj h).symm⟩

theorem SetupStep.of_execSetConfiguration (h : execSetConfiguration q s = .next t) : SetupStep s i t := by
  unfold execSetConfiguration at h
  split at h
  · split at h
    · cases h
    · rename_i hfree
      exact .of_work (.configure i (Bool.eq_false_iff.mpr hfree)) h
  · split at h
    · cases h
    · rename_i hfree
      exact .of_work (.deconfigure i (Bool.eq_false_iff.mpr hfree)) h
  · exact .of_answerSetup h

theorem SetupStep.of_execSetControlLineState (h : execSetControlLineState q s = .next t) : SetupStep s i t := by
  unfold execSetControlLineState at h
  split at h
  · exact .of_work (.lineState i _) h
  · exact .of_answerSetup h

/-- Every request, matched or not, is a SETUP step. -/
theorem runRequest_next (h : runRequest i s = .next t) : SetupStep s i t := by
  cases i with
  | setAddress q => exact .of_work (.address _ (addressOperand q)) h
  | setConfiguration q => exact .of_execSetConfiguration h
  | setControlLineState q => exact .of_execSetControlLineState h
  | vendorReset q => exact .of_work (.stageReset q) h
  | getStatus q | getDescriptor q | getConfiguration q | getInterface q | setInterface q | sendEncapsulatedCommand q
  | getEncapsulatedResponse q | setLineCoding q | getLineCoding q | vendorIdentify q => exact .of_answerSetup h
  | _ => exact .of_stallSetup h

theorem setupStage_next (h : setupStage s = .next t) : ∃ i, SetupStep s i t := by
  unfold setupStage at h
  split at h
  · exact ⟨_, runRequest_next h⟩
  · exact ⟨.irq, .of_stallSetup h⟩

theorem exec_request (hi : i.isRequest = true) (s : State) : exec i s = runRequest i s := by
  cases i with
  | getStatus _ | setAddress _ | getDescriptor _ | getConfiguration _ | setConfiguration _ | getInterface _
  | setInterface _ | sendEncapsulatedCommand _ | getEncapsulatedResponse _ | setLineCoding _ | getLineCoding _
  | setControlLineState _ | vendorReset _ | vendorIdentify _ => rfl
  | _ => cases hi

theorem execSetConfiguration_fault {x : Fault} (h : execSetConfiguration q s = .fault x) : x = .reconfigInFlight := by
  unfold execSetConfiguration at h
  split at h
  · split at h
    · exact (Host.Outcome.fault.inj h).symm
    · cases h
  · split at h
    · exact (Host.Outcome.fault.inj h).symm
    · cases h
  · cases h

/-- A request faults only as SET_CONFIGURATION with a bulk completion in flight (R285, R286). -/
theorem runRequest_fault {x : Fault} (h : runRequest i s = .fault x) : x = .reconfigInFlight := by
  cases i with
  | setConfiguration q => exact execSetConfiguration_fault h
  | setControlLineState q =>
    change execSetControlLineState q s = .fault x at h
    unfold execSetControlLineState at h
    split at h <;> cases h
  | _ => cases h

/-- Only SET_CONFIGURATION's work leaves endpoint 0: it sets the pipe up or tears it down. -/
theorem SetupStep.cases (h : SetupStep s i t) :
    OnEp0 s t ∨ (s.bulkInFlight = false ∧ ∃ u, OnEp0 s u ∧ (OnEp0 u.pipeSetup t ∨ OnEp0 u.pipeTeardown t)) := by
  obtain ⟨u, a, w, hwork, rfl⟩ := h
  have hbegin : OnEp0 s s.beginSetup := OnEp0.refl.beginSetup
  cases hwork with
  | nothing => exact .inl ((hbegin.startStage a w).ret _)
  | address a' => exact .inl (((hbegin.ctl _).startStage a w).ret _)
  | lineState b => refine .inl (((hbegin.dev _ ?_ ?_).startStage a w).ret _) <;> rfl
  | stageReset q => refine .inl ((((hbegin.reason _).dev _ ?_ ?_).startStage a w).ret _) <;> rfl
  | configure _ hfree =>
    refine .inr ⟨hfree, _, hbegin.dev _ ?_ ?_, .inl ((OnEp0.refl.startStage a w).ret _)⟩ <;> rfl
  | deconfigure _ hfree =>
    refine .inr ⟨hfree, _, hbegin.dev _ ?_ ?_, .inr ((OnEp0.refl.startStage a w).ret _)⟩ <;> rfl

end Requests

/-! ### Endpoint-0 completions (R225, R226) -/

section Completions
variable {s t : State}

theorem ep0InComplete_next (h : ep0InComplete s = .next t) :
    t = s.setRet .none ∨ t = s.sendInChunk.setRet .none ∨
    (s.ctl.dataStage = false ∧ t = s.applyAddress.setRet .none) := by
  unfold ep0InComplete at h
  split at h
  · split at h
    · exact .inl (Host.Outcome.next.inj h).symm
    · exact .inr (.inl (Host.Outcome.next.inj h).symm)
  · split at h
    · cases h
    · rename_i hstage
      exact .inr (.inr ⟨Bool.eq_false_iff.mpr hstage, (Host.Outcome.next.inj h).symm⟩)

theorem OnEp0.of_ep0InComplete (h : ep0InComplete s = .next t) : OnEp0 s t := by
  rcases ep0InComplete_next h with rfl | rfl | ⟨-, rfl⟩
  · exact OnEp0.refl.ret _
  · exact OnEp0.refl.sendInChunk.ret _
  · exact OnEp0.refl.applyAddress.ret _

theorem OnEp0.of_ep0OutComplete (h : ep0OutComplete s = .next t) : OnEp0 s t := by
  unfold ep0OutComplete at h
  dsimp only at h
  split at h
  · have hstored := (OnEp0.refl (s := s)).storeOut (min (s.desc .ep0Out).count.toNat s.ctl.remaining.toNat)
    split at h
    · obtain rfl := Host.Outcome.next.inj h
      exact ((hstored.ctl _).ctl _).statusIn.ret _
    · obtain rfl := Host.Outcome.next.inj h
      exact ((hstored.ctl _).armStall (.inl rfl) (le_refl _) _ false).ret _
  · obtain rfl := Host.Outcome.next.inj h
    exact (OnEp0.refl.beginSetup.armStall (.inl rfl) (le_refl _) false false).ret _

end Completions

end Sys2Proof.Machine
end

section
/-! What the interrupt step can do (60_exceptions.md R384), said once for each handler. -/

namespace Sys2Proof.Machine

section
variable {s t : State}

/-- The interrupt step runs the handler of a source that is taken, on an attached device, or does nothing (R384). -/
theorem execIrq_next (h : execIrq s = .next t) :
    t = s.setRet .notEnabled ∨
    (s.dev.state ≠ .detached ∧ ∃ src, s.isTaken src = true ∧ handleSource s src = .next t) := by
  rcases takeInterrupt_next h with ⟨-, hdev, src, hsrc, h⟩ | rfl
  · exact .inr ⟨hdev, src, State.isTaken_of_interruptSource hsrc, h⟩
  · exact .inl rfl

theorem bulkOutComplete_next {r : Bit} (h : bulkOutComplete r s = .next t) :
    s.pipeArmed = true ∧ r = s.rx.eng ∧ s.rx.busy.get s.rx.eng = true ∧
      t = (s.setRx { s.rx with busy := s.rx.busy.put s.rx.eng false, eng := !s.rx.eng }).setRet .none := by
  unfold bulkOutComplete at h
  split at h
  · cases h
  · rename_i harmed
    split at h
    · cases h
    · rename_i heng
      split at h
      · cases h
      · rename_i hbusy
        exact ⟨by simpa using harmed, not_not.mp heng, by simpa using hbusy, (Host.Outcome.next.inj h).symm⟩

theorem bulkInComplete_next {r : Bit} (h : bulkInComplete r s = .next t) :
    s.pipeArmed = true ∧ r = s.tx.eng ∧ s.tx.busy.get s.tx.eng = true ∧
      t = (s.setTx { s.tx with busy := s.tx.busy.put s.tx.eng false, eng := !s.tx.eng }).setRet .none := by
  unfold bulkInComplete at h
  split at h
  · cases h
  · rename_i harmed
    split at h
    · cases h
    · rename_i heng
      split at h
      · cases h
      · rename_i hbusy
        exact ⟨by simpa using harmed, not_not.mp heng, by simpa using hbusy, (Host.Outcome.next.inj h).symm⟩

/-- What the handling of a completion can do (R172): a move on endpoint 0, a SETUP step, or the bookkeeping of a bulk half. -/
theorem handleCompletion_next {e : Completion} (h : handleCompletion e s = .next t) :
    (e.ep = .ep0 ∧ (OnEp0 s t ∨ ∃ i, SetupStep s i t)) ∨
    (e = { kind := .out, ep := .bulk, half := e.half } ∧ bulkOutComplete e.half s = .next t) ∨
    (e = { kind := .inp, ep := .bulk, half := e.half } ∧ bulkInComplete e.half s = .next t) := by
  obtain ⟨kind, ep, half⟩ := e
  unfold handleCompletion at h
  split at h
  case h_1 => exact .inl ⟨by assumption, .inr (setupStage_next h)⟩
  case h_2 => exact .inl ⟨by assumption, .inl (.of_ep0OutComplete h)⟩
  case h_3 => exact .inl ⟨by assumption, .inl (.of_ep0InComplete h)⟩
  case h_4 hk he =>
    cases hk
    cases he
    exact .inr (.inl ⟨rfl, h⟩)
  case h_5 hk he =>
    cases hk
    cases he
    exact .inr (.inr ⟨rfl, h⟩)
  all_goals cases h

theorem handleTrn_next (h : handleTrn s = .next t) :
    t = s.setRet .notEnabled ∨ ∃ e rest, s.irq.trn = e :: rest ∧ handleCompletion e (s.setTrn rest) = .next t := by
  unfold handleTrn at h
  split at h
  · exact .inl (Host.Outcome.next.inj h).symm
  · exact .inr ⟨_, _, by assumption, h⟩

end

end Sys2Proof.Machine
end

section
/-! The mask and the sleep (10_state.md R31; 60_exceptions.md R385, R396). -/

namespace Sys2Proof.Machine

/-! ### What the two invariants look at -/

/-- The fields that `maskLegal` and `sleepLegal` look at. -/
def State.power (s : State) : DevPhase × Bool × BitVec 8 × BitVec 8 × Bool :=
  (s.dev.state, s.dev.suspended, s.irq.mask, s.irq.savedMask, s.main.asleep)

/-- The mask and the sleep are legal. -/
def State.powerLegal (s : State) : Prop := s.maskLegal ∧ s.sleepLegal

section
variable {s t u : State}

theorem powerLegal_of_power (h : t.power = s.power) (hs : s.powerLegal) : t.powerLegal := by
  simp only [State.power, Prod.mk.injEq] at h
  obtain ⟨hstate, hsusp, hmask, hsaved, hasleep⟩ := h
  unfold State.powerLegal State.maskLegal State.sleepLegal
  rw [hstate, hsusp, hmask, hsaved, hasleep]
  exact hs

theorem powerLegal_of_block (h : t.block = s.block) (hs : s.powerLegal) : t.powerLegal := by
  refine powerLegal_of_power ?_ hs
  exact congrArg (fun b : Block => (b.devState, b.suspended, b.irq.mask, b.irq.savedMask, b.asleep)) h

/-- An awake device that is not suspended, with the normal mask. -/
theorem powerLegal_of_awake (hstate : t.dev.state ≠ .detached) (hsusp : t.dev.suspended = false)
    (hmask : t.irq.mask = 0x1B#8) (hasleep : t.main.asleep = false) : t.powerLegal := by
  simp [State.powerLegal, State.maskLegal, State.sleepLegal, hstate, hsusp, hmask, hasleep]

theorem State.powerOn_powerLegal (p : Params) (n : Nat) : (State.powerOn p n).powerLegal := by
  simp [State.powerLegal, State.maskLegal, State.sleepLegal, State.powerOn]

theorem power_of_onEp0 (h : OnEp0 s t) : t.power = s.power := by
  induction h with
  | refl => rfl
  | bytes _ bs _ ih => simpa [State.power] using ih
  | dev _ v hstate hsusp ih =>
    rw [← ih]
    simp [State.power, hstate, hsusp]
  | ctl _ _ ih | desc _ _ _ _ _ ih | lc _ _ _ ih | reason _ _ ih | ret _ _ ih => exact ih

@[simp] theorem State.pipeSetup_power (s : State) : s.pipeSetup.power = s.power := by
  simp [State.power]

@[simp] theorem State.pipeTeardown_power (s : State) : s.pipeTeardown.power = s.power := by
  simp [State.power]

theorem power_of_setupStep {i : Instr} (h : SetupStep s i t) : t.power = s.power := by
  rcases h.cases with h | ⟨-, u, hu, h | h⟩
  · exact power_of_onEp0 h
  · rw [power_of_onEp0 h, State.pipeSetup_power, power_of_onEp0 hu]
  · rw [power_of_onEp0 h, State.pipeTeardown_power, power_of_onEp0 hu]

theorem State.setTrn_power (s : State) (q : List Completion) : (s.setTrn q).power = s.power := rfl

/-! ### The interrupt step -/

/-- A source other than ACTIVITY is taken only while the device is not suspended, and ACTIVITY only while it is: the two
masks share no bit (R31). -/
theorem suspended_of_isTaken {src : Source} (hs : s.powerLegal) (hdev : s.dev.state ≠ .detached)
    (h : s.isTaken src = true) :
    (src = .activity ∧ s.dev.suspended = true ∧ s.irq.savedMask = 0x1B#8) ∨
    (src ≠ .activity ∧ s.dev.suspended = false ∧ s.irq.mask = 0x1B#8) := by
  obtain ⟨hmask, -⟩ := hs
  simp only [State.isTaken, Bool.and_eq_true] at h
  obtain ⟨-, hbit⟩ := h
  simp only [State.maskLegal, if_neg hdev] at hmask
  split at hmask
  · rename_i hsusp
    rw [hmask.1] at hbit
    cases src with
    | activity => exact .inl ⟨rfl, hsusp, hmask.2⟩
    | _ => cases hbit
  · rename_i hsusp
    rw [hmask] at hbit
    cases src with
    | activity => cases hbit
    | _ => exact .inr ⟨nofun, by simpa using hsusp, hmask⟩

theorem handleTrn_power (h : handleTrn s = .next t) : t.power = s.power := by
  rcases handleTrn_next h with rfl | ⟨e, rest, -, h⟩
  · rfl
  · rcases handleCompletion_next h with ⟨-, h | ⟨i, h⟩⟩ | ⟨-, h⟩ | ⟨-, h⟩
    · exact (power_of_onEp0 h).trans (s.setTrn_power rest)
    · exact (power_of_setupStep h).trans (s.setTrn_power rest)
    · obtain ⟨-, -, -, rfl⟩ := bulkOutComplete_next h
      rfl
    · obtain ⟨-, -, -, rfl⟩ := bulkInComplete_next h
      rfl

theorem handleSource_keeps_powerLegal {src : Source} (hdev : s.dev.state ≠ .detached) (htaken : s.isTaken src = true)
    (h : handleSource s src = .next t) (hs : s.powerLegal) : t.powerLegal := by
  have hsrc := suspended_of_isTaken hs hdev htaken
  cases src with
  | trn => exact powerLegal_of_power (handleTrn_power h) hs
  | error => exact powerLegal_of_power (Host.Outcome.next.inj h ▸ rfl) hs
  | activity =>
    obtain ⟨-, hsusp, hsaved⟩ | ⟨hne, -, -⟩ := hsrc
    · simp only [handleSource, handleActivity, hsusp, if_true] at h
      obtain rfl := Host.Outcome.next.inj h
      exact powerLegal_of_awake hdev rfl (by simp [hsaved, maskWritten]) rfl
    · exact absurd rfl hne
  | idle =>
    obtain ⟨heq, -, -⟩ | ⟨-, hsusp, hmask⟩ := hsrc
    · cases heq
    · obtain rfl := Host.Outcome.next.inj h
      refine ⟨?_, fun _ => rfl⟩
      show if s.dev.state = .detached then _ else if true = true then maskSuspend = 0x04#8 ∧ s.irq.mask = 0x1B#8 else _
      rw [if_neg hdev, if_pos rfl]
      exact ⟨rfl, hmask⟩
  | reset =>
    obtain ⟨heq, -, -⟩ | ⟨-, hsusp, -⟩ := hsrc
    · cases heq
    · obtain rfl := Host.Outcome.next.inj h
      have hasleep : s.main.asleep = false := Bool.eq_false_iff.mpr fun ha => by simp [hs.2 ha] at hsusp
      exact powerLegal_of_awake (by simp) rfl rfl (by simpa using hasleep)

theorem execIrq_keeps_powerLegal (h : execIrq s = .next t) (hs : s.powerLegal) : t.powerLegal := by
  rcases execIrq_next h with rfl | ⟨hdev, src, htaken, h⟩
  · exact hs
  · exact handleSource_keeps_powerLegal hdev htaken h hs

/-! ### The other operations of the port -/

theorem power_of_whenEnabled {e : Bool} {r : Result} (h : whenEnabled e s r = .next t)
    (hr : e = true → r = .next t → t.power = s.power) : t.power = s.power := by
  rcases whenEnabled_next h with ⟨he, h⟩ | ⟨-, rfl⟩
  · exact hr he h
  · rfl

theorem power_of_returning {r : Ret} (h : returning r u = .next t) (hu : u.power = s.power) : t.power = s.power := by
  obtain rfl := Host.Outcome.next.inj h
  exact hu

@[simp] theorem State.noteActivity_power (s : State) : s.noteActivity.power = s.power := by
  simp [State.power, State.noteActivity_irq]

@[simp] theorem State.receive_power (s : State) (d : DescId) (bs : List Byte) (r : Completion) :
    (s.receive d bs r).power = s.power := by
  simp [State.power, State.receive, State.complete]

theorem power_of_evTrnSetup {packet : List Byte} (h : execEvTrnSetup packet s = .next t) : t.power = s.power :=
  power_of_whenEnabled h fun _ h => power_of_returning h (by simp)

theorem power_of_evTrnOut {ep : Endpoint} {half : Bit} {data : List Byte} (h : execEvTrnOut ep half data s = .next t) :
    t.power = s.power := by
  cases ep with
  | ep0 => exact power_of_whenEnabled h fun _ h => power_of_returning h (by simp)
  | notif => exact power_of_whenEnabled h fun _ h => power_of_returning h rfl
  | bulk =>
    refine power_of_whenEnabled h fun _ h => power_of_returning h ?_
    exact (State.noteActivity_power _).trans (s.receive_power _ _ _)

theorem power_of_evTrnIn {ep : Endpoint} {half : Bit} (h : execEvTrnIn ep half s = .next t) : t.power = s.power := by
  cases ep with
  | ep0 =>
    refine power_of_whenEnabled h fun _ h => power_of_returning (withinBuffer_next h) ?_
    exact State.noteActivity_power _
  | notif => exact power_of_whenEnabled h fun _ h => power_of_returning h rfl
  | bulk =>
    refine power_of_whenEnabled h fun _ h => power_of_returning (withinBuffer_next h) ?_
    exact State.noteActivity_power _

/-- Of the engine acts only EV_SE0_EXIT moves the connection, between two states of the same mask (R164). -/
theorem execEvSe0Exit_keeps_powerLegal (h : execEvSe0Exit s = .next t) (hs : s.powerLegal) : t.powerLegal := by
  rcases whenEnabled_next h with ⟨hstate, h⟩ | ⟨-, rfl⟩
  · have hstate : s.dev.state = .attached := of_decide_eq_true hstate
    obtain rfl := Host.Outcome.next.inj h
    obtain ⟨hmask, hsleep⟩ := hs
    refine ⟨?_, hsleep⟩
    unfold State.maskLegal at hmask ⊢
    rw [if_neg (by rw [hstate]; nofun)] at hmask
    rw [if_neg nofun]
    exact hmask
  · exact hs

theorem execAttach_keeps_powerLegal (h : execAttach s = .next t) (hs : s.powerLegal) : t.powerLegal := by
  rcases whenAwake_next h with ⟨hawake, h⟩ | ⟨-, rfl⟩
  · split at h
    · obtain rfl := Host.Outcome.next.inj h
      exact powerLegal_of_awake (by simp) rfl rfl (by simpa using hawake)
    · obtain rfl := Host.Outcome.next.inj h
      exact hs
  · exact hs

theorem execSleep_keeps_powerLegal (h : execSleep s = .next t) (hs : s.powerLegal) : t.powerLegal := by
  rcases whenAwake_next h with ⟨-, h⟩ | ⟨-, rfl⟩
  · obtain rfl := Host.Outcome.next.inj h
    split
    · rename_i hsusp
      exact ⟨hs.1, fun _ => hsusp⟩
    · exact hs
  · exact hs

/-- A device reset is a power-on for the block: only the persisted byte, the observations and the model's inputs stay
(R298). -/
theorem State.deviceReset_block (s : State) : s.deviceReset.block = (State.powerOn s.cfg s.draws).block := rfl

/-- RESET_EXEC and WATCHDOG reset the device or do nothing to the block (R298, R347). -/
theorem execResetExec_next (h : execResetExec s = .next t) :
    (s.dev.pendingReset = true ∧ t = s.deviceReset.setRet .none) ∨ ∃ r, t = s.setRet r := by
  rcases whenAwake_next h with ⟨-, h⟩ | ⟨-, rfl⟩
  · obtain rfl := Host.Outcome.next.inj h
    split
    · rename_i hreset
      exact .inl ⟨hreset, rfl⟩
    · exact .inr ⟨_, rfl⟩
  · exact .inr ⟨_, rfl⟩

theorem execWatchdog_next (h : execWatchdog s = .next t) :
    (s.sess.poll ≠ none ∧ t = s.deviceReset.setRet .none) ∨ ∃ r, t = s.setRet r := by
  rcases whenEnabled_next h with ⟨hpoll, h⟩ | ⟨-, rfl⟩
  · exact .inl ⟨Option.isSome_iff_ne_none.mp hpoll, (Host.Outcome.next.inj h).symm⟩
  · exact .inr ⟨_, rfl⟩

theorem execCsExit_next (h : execCsExit s = .next t) :
    (∃ saved rest, s.irq.csStack = saved :: rest ∧
      t = (s.setIrq { s.irq with enable := saved, csStack := rest }).setRet .none) ∨ t = s.setRet .held := by
  rcases whenAwake_next h with ⟨-, h⟩ | ⟨-, rfl⟩
  · split at h
    · cases h
    · exact .inl ⟨_, _, by assumption, (Host.Outcome.next.inj h).symm⟩
  · exact .inr rfl

theorem State.deviceReset_powerLegal (s : State) : s.deviceReset.powerLegal :=
  powerLegal_of_block s.deviceReset_block (State.powerOn_powerLegal _ _)

theorem power_of_frame {frame : State} (h : t = frame) (hframe : frame.power = s.power) : t.power = s.power :=
  h ▸ hframe

/-- Every operation of the port keeps the mask and the sleep legal. -/
theorem exec_keeps_powerLegal {i : Instr} (hi : i.ofPort) (h : exec i s = .next t) (hs : s.powerLegal) :
    t.powerLegal := by
  have hpower (hp : t.power = s.power) : t.powerLegal := powerLegal_of_power hp hs
  cases i, hi using Instr.ofPort_elim with
  | evSe0Exit => exact execEvSe0Exit_keeps_powerLegal h hs
  | evBusReset => exact hpower (power_of_whenEnabled h fun _ h => power_of_returning h (State.noteActivity_power _))
  | evIdle => exact hpower (power_of_whenEnabled h fun _ h => power_of_returning h (State.noteActivity_power _))
  | evActivity => exact hpower (power_of_whenEnabled h fun _ h => power_of_returning h rfl)
  | evError classes => exact hpower (power_of_whenEnabled h fun _ h => power_of_returning h (State.noteActivity_power _))
  | evTrnSetup packet => exact hpower (power_of_evTrnSetup h)
  | evTrnOut ep half data => exact hpower (power_of_evTrnOut h)
  | evTrnIn ep half => exact hpower (power_of_evTrnIn h)
  | attach => exact execAttach_keeps_powerLegal h hs
  | acqRx => exact hpower (power_of_frame (execAcqRx_frame h) rfl)
  | rxRead index => exact hpower (power_of_frame (execRxRead_frame h) rfl)
  | rxTake count => exact hpower (power_of_frame (execRxTake_frame h) rfl)
  | acqTx => exact hpower (power_of_frame (execAcqTx_frame h) rfl)
  | txPut byte => exact hpower (power_of_frame (execTxPut_frame h) rfl)
  | flush => exact hpower (power_of_frame (execFlush_frame h) rfl)
  | isActive | csEnter =>
    rcases whenAwake_next h with ⟨-, h⟩ | ⟨-, rfl⟩
    · exact hpower (power_of_returning h rfl)
    · exact hs
  | csExit =>
    rcases execCsExit_next h with ⟨saved, rest, -, rfl⟩ | rfl <;> exact hs
  | sleep => exact execSleep_keeps_powerLegal h hs
  | resetExec =>
    rcases execResetExec_next h with ⟨-, rfl⟩ | ⟨r, rfl⟩
    · exact s.deviceReset_powerLegal
    · exact hs
  | irq => exact execIrq_keeps_powerLegal h hs
  | watchdog =>
    rcases execWatchdog_next h with ⟨-, rfl⟩ | ⟨r, rfl⟩
    · exact s.deviceReset_powerLegal
    · exact hs

end

/-- Settles O49: the mask and the sleep are an invariant of the block, which every operation of the port keeps. -/
theorem everyStepKeepsMaskAndSleepLegal : Obligations.EveryStepKeepsMaskAndSleepLegal :=
  fun _ _ hmask hsleep h => step_keeps_block powerLegal_of_block exec_keeps_powerLegal h ⟨hmask, hsleep⟩

end Sys2Proof.Machine
end

section
/-! The power-on, bus-reset and attach states field by field (10_state.md R75; 40_device_events.md R165-R167; 42_bulk_pipe.md
R292-R298), and the requests with an OUT data stage (41_control_transfer.md R206). -/

namespace Sys2Proof.Machine

open Sys2Proof.Statements

/-! ### The bus-reset initialisation -/

theorem State.stallAll_eq (s : State) :
    s.stallAll =
      { s with bd := { ep0Out := stalledBd (ep0Count s), ep0In := stalledBd (ep0Count s), notifIn := stalledBd 0#10,
                       bulkOut0 := stalledBd 64#10, bulkOut1 := stalledBd 64#10, bulkIn0 := stalledBd 64#10,
                       bulkIn1 := stalledBd 64#10 } } := by
  rfl

/-- `usb_reset_init()` is the record of R166, with seven free bytes as the line coding. -/
theorem State.usbResetInit_eq (s : State) : s.usbResetInit = usbReset s (s.freeBytes 7) := by
  unfold State.usbResetInit
  rw [State.stallAll_eq]
  rfl

theorem State.freeBytes_length (s : State) (n : Nat) : (s.freeBytes n).length = n := by
  simp [State.freeBytes]

/-- `taken` of the statements is the model's test (R384). -/
theorem taken_iff (s : State) (src : Source) : taken s src ↔ s.isTaken src = true := by
  cases src <;> simp [taken, State.isTaken, State.isPending, Source.bit]

/-- The source that the statements say IRQ takes is the one that its entry chooses (R384, R386). -/
theorem interruptSource_of_irqTakes {s : State} {src : Source} (h : irqTakes s src) : s.interruptSource = some src := by
  obtain ⟨-, -, htaken, hfirst⟩ := h
  cases src <;> simp only [taken_iff, Bool.not_eq_true] at htaken hfirst <;> simp [State.interruptSource, htaken, hfirst]

theorem exec_irq_of_irqTakes {s : State} {src : Source} (h : irqTakes s src) : exec .irq s = handleSource s src := by
  have hsrc := interruptSource_of_irqTakes h
  obtain ⟨henable, hdev, -, -⟩ := h
  show takeInterrupt s (handleSource s) = handleSource s src
  simp [takeInterrupt, henable, hdev, hsrc]

/-- Settles O16: the RESET handler's updates, one after the other, are the record of the statement. -/
theorem resetStepInitialisesTheBlock : Obligations.ResetStepInitialisesTheBlock := by
  intro s h
  refine ⟨s.freeBytes 7, s.freeBytes_length 7, (exec_irq_of_irqTakes h).trans ?_⟩
  show handleReset s = _
  unfold handleReset
  rw [State.usbResetInit_eq]
  rfl

theorem whenAwake_of_awake {s : State} (h : s.main.asleep = false) (r : Result) : whenAwake s r = r := by
  simp [whenAwake, h]

/-- Settles O31: ATTACH is the same initialisation, on a detached block alone. -/
theorem attachInitialisesADetachedBlock : Obligations.AttachInitialisesADetachedBlock := by
  intro s hawake
  refine ⟨fun hdetached => ⟨s.freeBytes 7, s.freeBytes_length 7, ?_⟩, fun hattached => ?_⟩
  · refine (whenAwake_of_awake hawake _).trans ?_
    rw [if_pos hdetached, State.usbResetInit_eq]
    rfl
  · refine (whenAwake_of_awake hawake _).trans ?_
    rw [if_neg hattached]
    rfl

/-! ### SLEEP and the two device resets -/

/-- SLEEP copies the suspended flag: it sleeps while suspended and stays awake otherwise (R296). -/
theorem exec_sleep {s : State} (h : s.main.asleep = false) :
    exec .sleep s = .next { s with main := { s.main with asleep := s.dev.suspended }, ret := .none } := by
  refine (whenAwake_of_awake h _).trans (congrArg Host.Outcome.next ?_)
  split
  · rename_i hsusp
    rw [hsusp]
    rfl
  · rename_i hsusp
    rw [Bool.eq_false_iff.mpr hsusp, ← h]
    rfl

/-- Settles O32. -/
theorem sleepAndTheTwoDeviceResets : Obligations.SleepAndTheTwoDeviceResets := by
  intro s
  refine ⟨fun hawake => ⟨exec_sleep hawake, fun hnone => ?_, fun hstaged => ?_⟩, fun hidle => ?_, fun hpoll => ?_⟩
  · refine (whenAwake_of_awake hawake _).trans ?_
    rw [hnone]
    rfl
  · refine (whenAwake_of_awake hawake _).trans ?_
    rw [hstaged]
    rfl
  · show whenEnabled s.sess.poll.isSome s _ = _
    rw [hidle]
    rfl
  · show whenEnabled s.sess.poll.isSome s _ = _
    rw [Option.isSome_iff_ne_none.mpr hpoll]
    rfl

/-! ### Requests with an OUT data stage -/

theorem exec_sendEncapsulatedCommand {s : State} (h : s.dev.configured = true) (q : SetupFields) :
    exec (.sendEncapsulatedCommand q) s = answerSetup (.dataOut none) q s := by
  show answerSetup (classAnswer s _) q s = _
  rw [classAnswer, if_pos h]

theorem exec_setLineCoding {s : State} (h : s.dev.configured = true) (q : SetupFields) :
    exec (.setLineCoding q) s = answerSetup (.dataOut (some .lc)) q s := by
  show answerSetup (classAnswer s _) q s = _
  rw [classAnswer, if_pos h]

/-- An OUT data stage of no bytes is its status stage (R206). -/
theorem answerSetup_dataOut_zero {q : SetupFields} (h : q.wLength = 0#16) (dest : Option RamRef) (s : State) :
    answerSetup (.dataOut dest) q s = .next (statusArmed s) := by
  rw [answerSetup_next, State.startStage, if_pos h]
  rfl

theorem answerSetup_dataOut {q : SetupFields} (h : q.wLength ≠ 0#16) (dest : Option RamRef) (s : State) :
    answerSetup (.dataOut dest) q s = .next ((s.beginSetup.startOut dest q.wLength).setRet .none) := by
  rw [answerSetup_next, State.startStage, if_neg h]

/-- Settles O36: both requests answer with an OUT stage, of nothing or of the line coding. -/
theorem outRequestsAwaitTheirFirstPacket : Obligations.OutRequestsAwaitTheirFirstPacket := by
  intro s q hconf
  rw [exec_sendEncapsulatedCommand hconf, exec_setLineCoding hconf]
  refine ⟨fun h => ⟨answerSetup_dataOut_zero h none s, answerSetup_dataOut_zero h (some .lc) s⟩, fun h => ⟨?_, ?_⟩⟩
  · rw [answerSetup_dataOut h]
    rfl
  · rw [answerSetup_dataOut h]
    rfl

/-! ### Power-on -/

theorem State.powerOn_recordsSized (p : Params) (n : Nat) : (State.powerOn p n).recordsSized := by
  simp [State.recordsSized, State.powerOn]

theorem State.powerOn_inBounds (p : Params) (n : Nat) : (State.powerOn p n).inBounds :=
  ⟨fun h => absurd rfl h, nofun, nofun, nofun⟩

theorem State.powerOn_pipeLinked (p : Params) (n : Nat) : (State.powerOn p n).pipeLinked :=
  ⟨⟨rfl, rfl, rfl, rfl, fun h => absurd rfl h⟩, nofun⟩

theorem State.powerOn_wellKept (p : Params) (n : Nat) : wellKept (State.powerOn p n) :=
  ⟨State.powerOn_buf_wf p n, State.powerOn_recordsSized p n, State.powerOn_inBounds p n,
    (State.powerOn_powerLegal p n).1, (State.powerOn_powerLegal p n).2, fun h => absurd rfl h, fun h => absurd rfl h,
    State.powerOn_pipeLinked p n, fun _ => ⟨rfl, rfl, .inl rfl⟩⟩

/-- Settles O46: the column is `State.powerOn` itself, and on a detached device most invariants say nothing yet. -/
theorem resetStateIsWellKept : Obligations.ResetStateIsWellKept := by
  refine ⟨fun p n => ?_, rfl, State.powerOn_wellKept Config.params 0⟩
  simp [State.powerOn, Ctl.idle]

end Sys2Proof.Machine
end

section
/-! One direction of the bulk pipe by itself (10_state.md R52, R53, R64; 42_bulk_pipe.md R272-R291): how its flags, parities
and queue move, with nothing else of the state. Both directions of the pipe are instances. -/

namespace Sys2Proof.Machine

/-! ### Flags -/

theorem Busy.get_put (b : Busy) (h k : Bit) (v : Bool) : (b.put h v).get k = if k = h then v else b.get k := by
  cases h <;> cases k <;> rfl

/-! ### The queued halves of a direction -/

/-- The halves of the bulk completions of a kind in a queue, oldest first. -/
def halvesOf (k : TrnKind) (q : List Completion) : List Bit :=
  (q.filter fun e => decide (e.kind = k) && decide (e.ep = .bulk)).map Completion.half

theorem State.bulkQueue_eq (s : State) (k : TrnKind) : s.bulkQueue k = halvesOf k s.irq.trn := rfl

theorem halvesOf_append (k : TrnKind) (q r : List Completion) : halvesOf k (q ++ r) = halvesOf k q ++ halvesOf k r := by
  simp [halvesOf]

theorem halvesOf_cons_bulk (k : TrnKind) (h : Bit) (q : List Completion) :
    halvesOf k ({ kind := k, ep := .bulk, half := h } :: q) = h :: halvesOf k q := by
  simp [halvesOf]

theorem halvesOf_cons_of_ne {k : TrnKind} {e : Completion} (h : e.kind ≠ k ∨ e.ep ≠ .bulk) (q : List Completion) :
    halvesOf k (e :: q) = halvesOf k q := by
  unfold halvesOf
  rw [List.filter_cons_of_neg]
  rcases h with h | h <;> simp [h]

theorem halvesOf_append_of_ne {k : TrnKind} {e : Completion} (h : e.kind ≠ k ∨ e.ep ≠ .bulk) (q : List Completion) :
    halvesOf k (q ++ [e]) = halvesOf k q := by
  rw [halvesOf_append, halvesOf_cons_of_ne h]
  exact List.append_nil _

/-! ### Agreement with the engine -/

/-- A direction agrees with the engine (R53, R64): the queue alternates from `eng`; each half is busy while the engine owns it
or its completion is queued; the engine's pointer follows the queue unless a bus reset is pending. -/
structure DirLinked (busy : Busy) (eng ppbi : Bit) (reset : Bool) (own : Bit → Owner) (q : List Bit) : Prop where
  queue : queueFrom eng q
  half (h : Bit) : halfLinked (busy.get h) (own h) (q.contains h)
  pointer : reset = false → ppbi = if q.length = 1 then !eng else eng

theorem rxLinked_iff (s : State) :
    s.rxLinked ↔ DirLinked s.rx.busy s.rx.eng s.sie.ppbiOut s.irq.pending.reset (fun h => (s.desc (.bulkOut h)).own)
      (s.bulkQueue .out) :=
  ⟨fun ⟨hq, heven, hodd, hp⟩ => ⟨hq, Bool.rec heven hodd, hp⟩, fun h => ⟨h.queue, h.half false, h.half true, h.pointer⟩⟩

theorem txLinked_iff (s : State) :
    s.txLinked ↔ DirLinked s.tx.busy s.tx.eng s.sie.ppbiIn s.irq.pending.reset (fun h => (s.desc (.bulkIn h)).own)
      (s.bulkQueue .inp) :=
  ⟨fun ⟨hq, heven, hodd, hp⟩ => ⟨hq, Bool.rec heven hodd, hp⟩, fun h => ⟨h.queue, h.half false, h.half true, h.pointer⟩⟩

section Direction
variable {busy : Busy} {eng ppbi : Bit} {reset : Bool} {own own' : Bit → Owner} {q : List Bit} {h : Bit}

/-- A busy half is the engine's or queued; a free half is neither. -/
theorem halfLinked_free {own : Owner} {queued : Bool} : halfLinked false own queued ↔ own ≠ .engine ∧ queued = false := by
  cases own <;> cases queued <;> simp [halfLinked]

/-- Arming a free half makes it busy (R272, R280). -/
theorem DirLinked.arm (hl : DirLinked busy eng ppbi reset own q) (hfree : busy.get h = false) (harm : own' h = .engine)
    (hrest : ∀ k, k ≠ h → own' k = own k) : DirLinked (busy.put h true) eng ppbi reset own' q where
  queue := hl.queue
  pointer := hl.pointer
  half k := by
    rw [Busy.get_put]
    split
    · rename_i hk
      have hh := hl.half h
      rw [hfree, halfLinked_free] at hh
      subst hk
      exact ⟨by simp [harm], fun hboth => Bool.false_ne_true (hh.2.symm.trans hboth.2)⟩
    · rename_i hk
      rw [hrest k hk]
      exact hl.half k

/-- Where the engine's pointer stands on a half it owns, that half extends the queue (R64). -/
theorem queueFrom_transaction (hq : queueFrom eng q) (hp : ppbi = if q.length = 1 then !eng else eng)
    (hnew : q.contains ppbi = false) :
    queueFrom eng (q ++ [ppbi]) ∧ (!ppbi) = if (q ++ [ppbi]).length = 1 then !eng else eng := by
  rcases hq with rfl | rfl | rfl
  · obtain rfl : ppbi = eng := hp
    exact ⟨.inr (.inl rfl), rfl⟩
  · obtain rfl : ppbi = !eng := hp
    exact ⟨.inr (.inr rfl), Bool.not_not eng⟩
  · obtain rfl : ppbi = eng := hp
    simp at hnew

/-- A completed transaction moves the half at the engine's pointer from the engine to the end of the queue, and the pointer
to the other half (R163, R64). -/
theorem DirLinked.transaction (hl : DirLinked busy eng ppbi reset own q) (hreset : reset = false) (hh : h = ppbi)
    (hown : own h = .engine) (hgive : own' h = .firmware) (hrest : ∀ k, k ≠ h → own' k = own k) :
    DirLinked busy eng (!ppbi) reset own' (q ++ [h]) := by
  subst hh
  obtain ⟨hbusy, hnot⟩ := hl.half h
  have hnew : q.contains h = false := Bool.eq_false_iff.mpr fun hc => hnot ⟨hown, hc⟩
  obtain ⟨hqueue, hpointer⟩ := queueFrom_transaction hl.queue (hl.pointer hreset) hnew
  refine ⟨hqueue, fun k => ?_, fun _ => hpointer⟩
  by_cases hk : k = h
  · subst hk
    simp [halfLinked, hbusy, hown, hgive]
  · rw [hrest k hk]
    simpa [hk] using hl.half k

/-- The handling of the oldest completion frees its half and moves `eng` on (R290, R291). -/
theorem DirLinked.complete (hl : DirLinked busy eng ppbi reset own (eng :: q)) :
    DirLinked (busy.put eng false) (!eng) ppbi reset own q := by
  have hq : q = [] ∨ q = [!eng] := by
    simpa [queueFrom] using hl.queue
  refine ⟨?_, fun k => ?_, fun hreset => ?_⟩
  · exact hq.imp_right .inl
  · rw [Busy.get_put]
    have hhalf := hl.half k
    split
    · rename_i hk
      subst hk
      have hown : own k ≠ .engine := fun hown => hhalf.2 ⟨hown, by simp⟩
      exact halfLinked_free.mpr ⟨hown, by rcases hq with rfl | rfl <;> simp⟩
    · rename_i hk
      simpa [hk] using hhalf
  · rw [hl.pointer hreset]
    rcases hq with rfl | rfl <;> simp

/-- Both halves with the engine, or none of them busy, and nothing queued: the pointers meet (R285, R286). -/
theorem DirLinked.of_empty (hown : ∀ k, busy.get k = decide (own k = .engine)) (hp : ppbi = eng) :
    DirLinked busy eng ppbi reset own [] :=
  ⟨.inl rfl, fun k => by simp [halfLinked, hown k], fun _ => hp⟩

/-- A bus reset moves the engine's pointer, which then says nothing until it is handled (R165). -/
theorem DirLinked.busReset (hl : DirLinked busy eng ppbi reset own q) (ppbi' : Bit) :
    DirLinked busy eng ppbi' true own q :=
  ⟨hl.queue, hl.half, nofun⟩

end Direction

/-! ### Parities (R53) -/

/-- Re-arming the free half `rx.next` (R272). -/
theorem Rx.parity_rearm {r : Rx} (hp : r.parity) (hfree : r.busy.get r.next = false) :
    Rx.parity { r with busy := r.busy.put r.next true, next := !r.next, slice := none } := by
  obtain ⟨⟨even, odd⟩, next, eng, slice⟩ := r
  cases even <;> cases odd <;> cases next <;> simp_all [Rx.parity, Busy.get, Busy.put]

/-- A receive completion frees the half `rx.eng` (R290). -/
theorem Rx.parity_complete {r : Rx} (hp : r.parity) (hbusy : r.busy.get r.eng = true) :
    Rx.parity { r with busy := r.busy.put r.eng false, eng := !r.eng } := by
  obtain ⟨⟨even, odd⟩, next, eng, slice⟩ := r
  cases even <;> cases odd <;> cases eng <;> simp_all [Rx.parity, Busy.get, Busy.put]

/-- Arming the free half `tx.next` (R280). -/
theorem Tx.parity_arm {x : Tx} (hp : x.parity) (hfree : x.busy.get x.next = false) (slice : Option TxSlice) (zlp : Bool) :
    Tx.parity { x with busy := x.busy.put x.next true, next := !x.next, slice := slice, zlpOwed := zlp } := by
  obtain ⟨⟨even, odd⟩, next, eng, _, _⟩ := x
  cases even <;> cases odd <;> cases next <;> simp_all [Tx.parity, Busy.get, Busy.put]

/-- A transmit completion frees the half `tx.eng` (R291). -/
theorem Tx.parity_complete {x : Tx} (hp : x.parity) (hbusy : x.busy.get x.eng = true) :
    Tx.parity { x with busy := x.busy.put x.eng false, eng := !x.eng } := by
  obtain ⟨⟨even, odd⟩, next, eng, _, _⟩ := x
  cases even <;> cases odd <;> cases eng <;> simp_all [Tx.parity, Busy.get, Busy.put]

/-- A half that was free stays free when another, or the same, is freed. -/
theorem Busy.get_put_false {b : Busy} {k : Bit} (h : b.get k = false) (j : Bit) : (b.put j false).get k = false := by
  rw [Busy.get_put]
  split
  · rfl
  · exact h

end Sys2Proof.Machine
end

section
/-! The pipe's invariant on the state (10_state.md R52, R53, R64; 42_bulk_pipe.md R283-R291): each operation of the port moves
one direction, and leaves what the other looks at. -/

namespace Sys2Proof.Machine

/-! ### The invariant by directions -/

/-- The receive direction of an armed pipe. -/
def State.rxRunning (s : State) : Prop := s.rx.parity ∧ s.rx.sliceFree ∧ s.rxLinked

/-- The transmit direction of an armed pipe. -/
def State.txRunning (s : State) : Prop := s.tx.parity ∧ s.tx.sliceFree ∧ s.txLinked

/-- What the receive direction of an armed pipe looks at. -/
def State.rxView (s : State) : Rx × Bit × Bool × Owner × Owner × List Bit :=
  (s.rx, s.sie.ppbiOut, s.irq.pending.reset, (s.desc (.bulkOut false)).own, (s.desc (.bulkOut true)).own,
    s.bulkQueue .out)

/-- What the transmit direction of an armed pipe looks at. -/
def State.txView (s : State) : Tx × Bit × Bool × Owner × Owner × List Bit :=
  (s.tx, s.sie.ppbiIn, s.irq.pending.reset, (s.desc (.bulkIn false)).own, (s.desc (.bulkIn true)).own, s.bulkQueue .inp)

/-- What the disarmed pipe looks at. -/
def State.idleView (s : State) : Bool × Rx × Tx × List Bit × List Bit × Bool × Bool × Bool × Bool :=
  (s.engineOn, s.rx, s.tx, s.bulkQueue .out, s.bulkQueue .inp, (s.desc (.bulkOut false)).stall,
    (s.desc (.bulkOut true)).stall, (s.desc (.bulkIn false)).stall, (s.desc (.bulkIn true)).stall)

/-- Everything of the block that the pipe's invariant looks at, but for the other records of the queue. -/
def State.pipeView (s : State) := (s.pipeArmed, s.rxView, s.txView, s.idleView)

/-- Every queued record is one the engine can queue. -/
def State.queueLegal (s : State) : Prop := ∀ e ∈ s.irq.trn, e.legal

section
variable {s t u : State}

theorem rxRunning_of_view (h : t.rxView = s.rxView) (hs : s.rxRunning) : t.rxRunning := by
  simp only [State.rxView, Prod.mk.injEq] at h
  obtain ⟨hrx, hppbi, hreset, heven, hodd, hqueue⟩ := h
  unfold State.rxRunning State.rxLinked
  rw [hrx, hppbi, hreset, heven, hodd, hqueue]
  exact hs

theorem txRunning_of_view (h : t.txView = s.txView) (hs : s.txRunning) : t.txRunning := by
  simp only [State.txView, Prod.mk.injEq] at h
  obtain ⟨htx, hppbi, hreset, heven, hodd, hqueue⟩ := h
  unfold State.txRunning State.txLinked
  rw [htx, hppbi, hreset, heven, hodd, hqueue]
  exact hs

theorem engineOn_iff (s : State) : s.engineOn = true ↔ s.dev.state ≠ .detached := decide_eq_true_iff

theorem pipeIdle_of_view (h : t.idleView = s.idleView) (hs : s.pipeIdle) : t.pipeIdle := by
  simp only [State.idleView, Prod.mk.injEq] at h
  obtain ⟨hon, hrx, htx, hout, hinp, hout0, hout1, hin0, hin1⟩ := h
  unfold State.pipeIdle at hs ⊢
  rw [← engineOn_iff] at hs ⊢
  rw [hon, hrx, htx, hout, hinp, hout0, hout1, hin0, hin1]
  exact hs

/-- The invariant is kept where it is kept for the armed pipe, direction by direction, and for the disarmed one. -/
theorem pipeLinked_of (harmed : t.pipeArmed = s.pipeArmed) (hon : s.dev.state ≠ .detached → t.dev.state ≠ .detached)
    (hrx : s.rxRunning → t.rxRunning) (htx : s.txRunning → t.txRunning) (hidle : s.pipeIdle → t.pipeIdle)
    (hlegal : s.queueLegal → t.queueLegal) (hs : s.pipeLinked) : t.pipeLinked := by
  obtain ⟨hcore, hqueue⟩ := hs
  refine ⟨?_, hlegal hqueue⟩
  rw [harmed]
  split at hcore
  · rename_i h
    rw [if_pos h]
    obtain ⟨hdev, hrp, htp, hrs, hts, hrl, htl⟩ := hcore
    obtain ⟨hrp, hrs, hrl⟩ := hrx ⟨hrp, hrs, hrl⟩
    obtain ⟨htp, hts, htl⟩ := htx ⟨htp, hts, htl⟩
    exact ⟨hon hdev, hrp, htp, hrs, hts, hrl, htl⟩
  · rename_i h
    rw [if_neg h]
    exact hidle hcore

theorem pipeLinked_of_view (h : t.pipeView = s.pipeView) (hlegal : s.queueLegal → t.queueLegal) (hs : s.pipeLinked) :
    t.pipeLinked := by
  simp only [State.pipeView, Prod.mk.injEq] at h
  obtain ⟨harmed, hrx, htx, hidle⟩ := h
  have hon : t.engineOn = s.engineOn := congrArg Prod.fst hidle
  refine pipeLinked_of harmed (fun hdev => ?_) (rxRunning_of_view hrx) (txRunning_of_view htx)
    (pipeIdle_of_view hidle) hlegal hs
  rwa [← engineOn_iff, hon, engineOn_iff]

/-- The pipe as the block gives it. -/
theorem pipeLinked_of_block (h : t.block = s.block) (hs : s.pipeLinked) : t.pipeLinked := by
  simp only [State.block, Block.mk.injEq] at h
  obtain ⟨hstate, -, -, -, hirq, hbd, -, harmed, hrx, htx, -, hsie, -⟩ := h
  refine pipeLinked_of_view ?_ (fun hq => by unfold State.queueLegal; rwa [hirq]) hs
  simp only [State.pipeView, State.rxView, State.txView, State.idleView, State.engineOn, State.bulkQueue, State.desc,
    hstate, hirq, hbd, harmed, hrx, htx, hsie]

/-- On an armed pipe there is an attached device, and both directions run. -/
theorem pipeLinked_armed (hs : s.pipeLinked) (h : s.pipeArmed = true) :
    s.dev.state ≠ .detached ∧ s.rxRunning ∧ s.txRunning := by
  obtain ⟨hcore, -⟩ := hs
  rw [if_pos h] at hcore
  obtain ⟨hdev, hrp, htp, hrs, hts, hrl, htl⟩ := hcore
  exact ⟨hdev, ⟨hrp, hrs, hrl⟩, ⟨htp, hts, htl⟩⟩

theorem pipeLinked_disarmed (hs : s.pipeLinked) (h : s.pipeArmed = false) : s.pipeIdle := by
  obtain ⟨hcore, -⟩ := hs
  rwa [if_neg (by simp [h])] at hcore

theorem pipeLinked_of_running (harmed : t.pipeArmed = true) (hdev : t.dev.state ≠ .detached) (hrx : t.rxRunning)
    (htx : t.txRunning) (hlegal : t.queueLegal) : t.pipeLinked := by
  obtain ⟨hrp, hrs, hrl⟩ := hrx
  obtain ⟨htp, hts, htl⟩ := htx
  refine ⟨?_, hlegal⟩
  rw [if_pos harmed]
  exact ⟨hdev, hrp, htp, hrs, hts, hrl, htl⟩

theorem pipeLinked_of_idle (harmed : t.pipeArmed = false) (hidle : t.pipeIdle) (hlegal : t.queueLegal) :
    t.pipeLinked := by
  refine ⟨?_, hlegal⟩
  rw [if_neg (by simp [harmed])]
  exact hidle

/-! ### The receive direction's firmware operations (R271-R275) -/

theorem State.own_arm (s : State) (d : DescId) (n : Nat) (t : Bit) : ((s.arm d n t).desc d).own = .engine := by
  rw [State.desc_arm, if_pos rfl]

theorem State.arm_bulkOut_txView (s : State) (h : Bit) (n : Nat) (d : Bit) :
    (s.arm (.bulkOut h) n d).txView = s.txView := by
  cases h <;> rfl

theorem State.arm_bulkIn_rxView (s : State) (h : Bit) (n : Nat) (d : Bit) :
    (s.arm (.bulkIn h) n d).rxView = s.rxView := by
  cases h <;> rfl

theorem State.rxRecycle_txView (s : State) : s.rxRecycle.txView = s.txView := by
  unfold State.rxRecycle
  split
  · split
    · exact s.arm_bulkOut_txView _ _ _
    · rfl
  · rfl

/-- Recycling an exhausted slice re-arms its half, which is `rx.next` and free (R271, R272). -/
theorem State.rxRecycle_running (hs : s.rxRunning) : s.rxRecycle.rxRunning := by
  unfold State.rxRecycle
  split
  · rename_i x hx
    split
    · obtain ⟨hparity, hslice, hlinked⟩ := hs
      obtain ⟨hhalf, hfree⟩ := hslice x hx
      rw [hhalf]
      refine ⟨Rx.parity_rearm hparity hfree, nofun, (rxLinked_iff _).mpr ?_⟩
      refine ((rxLinked_iff s).mp hlinked).arm hfree ?_ fun k hk => ?_
      · exact s.own_arm (.bulkOut s.rx.next) 64 s.rx.next
      · exact congrArg Bd.own (State.desc_setDesc_ne s _ (by simpa using hk))
    · exact hs
  · exact hs

theorem State.rxAcquire_running (hs : s.rxRunning) : s.rxAcquire.rxRunning := by
  unfold State.rxAcquire
  split
  · exact hs
  · rcases s.rxTryExpose_cases with h | ⟨hfree, h⟩
    · rwa [h]
    · rw [h]
      obtain ⟨hparity, -, hlinked⟩ := hs
      exact ⟨hparity, fun x hx => Option.mem_some.mp hx ▸ ⟨rfl, hfree⟩, hlinked⟩

theorem State.rxAcquire_txView (s : State) : s.rxAcquire.txView = s.txView := by
  rw [State.rxAcquire_frame]
  rfl

theorem execAcqRx_keeps_pipeLinked (h : execAcqRx s = .next t) (hs : s.pipeLinked) : t.pipeLinked := by
  rcases whenAwake_next h with ⟨-, h⟩ | ⟨-, rfl⟩
  · split at h
    · rename_i harmed
      obtain rfl := Host.Outcome.next.inj h
      obtain ⟨hdev, hrx, htx⟩ := pipeLinked_armed hs harmed
      have hframe : s.rxRecycle.rxAcquire = { s with bd := s.rxRecycle.bd, rx := s.rxRecycle.rxAcquire.rx } := by
        rw [State.rxAcquire_frame, State.rxRecycle_frame]
      refine pipeLinked_of_running (s.rxRecycle.rxAcquire.setRet_pipeArmed _ |>.trans ?_) ?_
        (rxRunning_of_view rfl (State.rxAcquire_running (State.rxRecycle_running hrx)))
        (txRunning_of_view ((State.rxAcquire_txView _).trans s.rxRecycle_txView) htx) ?_
      · rw [hframe]
        exact harmed
      · rw [hframe]
        exact hdev
      · rw [hframe]
        exact hs.2
    · obtain rfl := Host.Outcome.next.inj h
      exact hs
  · exact hs

/-- RX_TAKE only shortens the slice (R274). -/
theorem execRxTake_keeps_pipeLinked {n : Byte} (h : execRxTake n s = .next t) (hs : s.pipeLinked) : t.pipeLinked := by
  rcases whenAwake_next h with ⟨-, h⟩ | ⟨-, rfl⟩
  · split at h
    · cases h
    · rename_i x hx
      split at h
      · cases h
      · obtain rfl := Host.Outcome.next.inj h
        refine pipeLinked_of (s := s) rfl id (fun hrx => ?_) (txRunning_of_view rfl) (fun hidle => ?_) id hs
        · obtain ⟨hparity, hslice, hlinked⟩ := hrx
          exact ⟨hparity, fun y hy => Option.mem_some.mp hy ▸ hslice x hx, hlinked⟩
        · have hnone : s.rx.slice = none := congrArg Rx.slice hidle.1
          cases hnone.symm.trans hx
  · exact hs

/-! ### The transmit direction's firmware operations (R276-R281) -/

theorem State.txTryAcquire_running (hs : s.txRunning) : s.txTryAcquire.txRunning := by
  rcases s.txTryAcquire_cases with h | ⟨-, hfree, h⟩
  · rwa [h]
  · rw [h]
    obtain ⟨hparity, -, hlinked⟩ := hs
    exact ⟨hparity, fun x hx => Option.mem_some.mp hx ▸ ⟨rfl, hfree⟩, hlinked⟩

/-- Arming the slice's half, which is `tx.next` and free (R280). -/
theorem State.txArm_running (hs : s.txRunning) {x : TxSlice} (hx : x ∈ s.tx.slice) (n : Nat) :
    (s.txArm x.half n).txRunning := by
  obtain ⟨hparity, hslice, hlinked⟩ := hs
  obtain ⟨hhalf, hfree⟩ := hslice x hx
  rw [hhalf]
  refine ⟨Tx.parity_arm hparity hfree none _, nofun, (txLinked_iff _).mpr ?_⟩
  refine ((txLinked_iff s).mp hlinked).arm hfree ?_ fun k hk => ?_
  · exact s.own_arm (.bulkIn s.tx.next) n s.tx.next
  · exact congrArg Bd.own (State.desc_setDesc_ne s _ (by simpa using hk))

theorem State.flushSlice_running (hs : s.txRunning) {x : TxSlice} (hx : x ∈ s.tx.slice) :
    (s.flushSlice x).2.txRunning := by
  rcases s.flushSlice_cases x with ⟨h, -⟩ | ⟨h, -⟩ <;> rw [h]
  · exact hs
  · exact State.txTryAcquire_running (State.txArm_running hs hx x.fill)

theorem State.flushBody_running (hs : s.txRunning) : s.flushBody.2.txRunning := by
  unfold State.flushBody
  split
  · rename_i x hx
    exact State.flushSlice_running hs hx
  · split
    · split
      · rename_i x hx
        exact State.flushSlice_running (State.txTryAcquire_running hs) hx
      · exact State.txTryAcquire_running hs
    · exact hs

theorem State.txRecycle_running (hs : s.txRunning) : s.txRecycle.txRunning := by
  unfold State.txRecycle
  split
  · split
    · exact State.flushBody_running hs
    · exact hs
  · exact hs

theorem State.txTryAcquire_rxView (s : State) : s.txTryAcquire.rxView = s.rxView := by
  rw [State.txTryAcquire_frame]
  rfl

theorem State.flushSlice_rxView (s : State) (x : TxSlice) : (s.flushSlice x).2.rxView = s.rxView := by
  rcases s.flushSlice_cases x with ⟨h, -⟩ | ⟨h, -⟩ <;> rw [h]
  exact (State.txTryAcquire_rxView _).trans (s.arm_bulkIn_rxView x.half x.fill x.half)

theorem State.flushBody_rxView (s : State) : s.flushBody.2.rxView = s.rxView := by
  unfold State.flushBody
  split
  · exact s.flushSlice_rxView _
  · split
    · split
      · exact (State.flushSlice_rxView _ _).trans s.txTryAcquire_rxView
      · exact s.txTryAcquire_rxView
    · rfl

theorem State.txRecycle_rxView (s : State) : s.txRecycle.rxView = s.rxView := by
  unfold State.txRecycle
  split
  · split
    · exact s.flushBody_rxView
    · rfl
  · rfl

/-- A state of an armed pipe after work on the transmit direction alone. -/
theorem pipeLinked_of_txWork (harmed : s.pipeArmed = true)
    (hframe : u = { s with bd := u.bd, tx := u.tx }) (hrx : u.rxView = s.rxView) (htx : s.txRunning → u.txRunning)
    (hs : s.pipeLinked) : u.pipeLinked := by
  obtain ⟨hdev, hrxs, htxs⟩ := pipeLinked_armed hs harmed
  have hqueue : u.queueLegal := by
    rw [hframe]
    exact hs.2
  have hstate : u.dev.state ≠ .detached := by
    rw [hframe]
    exact hdev
  have harm : u.pipeArmed = true := by
    rw [hframe]
    exact harmed
  exact pipeLinked_of_running harm hstate (rxRunning_of_view hrx hrxs) (htx htxs) hqueue

theorem setRet_pipeLinked (hs : s.pipeLinked) (r : Ret) : (s.setRet r).pipeLinked := hs

theorem execAcqTx_keeps_pipeLinked (h : execAcqTx s = .next t) (hs : s.pipeLinked) : t.pipeLinked := by
  rcases whenAwake_next h with ⟨-, h⟩ | ⟨-, rfl⟩
  · split at h
    · rename_i harmed
      obtain rfl := Host.Outcome.next.inj h
      refine setRet_pipeLinked (pipeLinked_of_txWork harmed ?_ ?_ ?_ hs) _
      · rw [State.txTryAcquire_frame, State.txRecycle_frame]
      · exact (State.txTryAcquire_rxView _).trans s.txRecycle_rxView
      · exact fun htx => State.txTryAcquire_running (State.txRecycle_running htx)
    · obtain rfl := Host.Outcome.next.inj h
      exact hs
  · exact hs

theorem execFlush_keeps_pipeLinked (h : execFlush s = .next t) (hs : s.pipeLinked) : t.pipeLinked := by
  rcases whenAwake_next h with ⟨-, h⟩ | ⟨-, rfl⟩
  · split at h
    · rename_i harmed
      obtain rfl := Host.Outcome.next.inj h
      exact setRet_pipeLinked
        (pipeLinked_of_txWork harmed s.flushBody_frame s.flushBody_rxView State.flushBody_running hs) _
    · obtain rfl := Host.Outcome.next.inj h
      exact hs
  · exact hs

/-- TX_PUT only fills the slice (R278). -/
theorem execTxPut_keeps_pipeLinked {b : Byte} (h : execTxPut b s = .next t) (hs : s.pipeLinked) : t.pipeLinked := by
  rcases whenAwake_next h with ⟨-, h⟩ | ⟨-, rfl⟩
  · split at h
    · cases h
    · rename_i x hx
      split at h
      · cases h
      · split at h
        · obtain rfl := Host.Outcome.next.inj h
          refine pipeLinked_of (s := s) rfl id (rxRunning_of_view rfl) (fun htx => ?_) (fun hidle => ?_) id hs
          · obtain ⟨hparity, hslice, hlinked⟩ := htx
            exact ⟨hparity, fun y hy => Option.mem_some.mp hy ▸ hslice x hx, hlinked⟩
          · have hnone : s.tx.slice = none := congrArg Tx.slice hidle.2.1
            cases hnone.symm.trans hx
        · cases h
  · exact hs

end

end Sys2Proof.Machine
end

section
/-! The pipe's invariant through the engine's acts, the interrupt step and the device resets (40_device_events.md R163-R172;
42_bulk_pipe.md R285-R291), and with it through every step. -/

namespace Sys2Proof.Machine

section
variable {s t u : State}

/-! ### The engine's acts (40_device_events.md R163-R170) -/

@[simp] theorem State.noteActivity_rxView (s : State) : s.noteActivity.rxView = s.rxView := by
  simp [State.rxView, State.bulkQueue, State.noteActivity_irq]

@[simp] theorem State.noteActivity_txView (s : State) : s.noteActivity.txView = s.txView := by
  simp [State.txView, State.bulkQueue, State.noteActivity_irq]

@[simp] theorem State.noteActivity_idleView (s : State) : s.noteActivity.idleView = s.idleView := by
  simp [State.idleView, State.engineOn, State.bulkQueue, State.noteActivity_irq]

@[simp] theorem State.noteActivity_pipeView (s : State) : s.noteActivity.pipeView = s.pipeView := by
  simp [State.pipeView]

theorem noteActivity_pipeLinked (hs : s.pipeLinked) : s.noteActivity.pipeLinked :=
  pipeLinked_of_view s.noteActivity_pipeView (fun hq => by simpa [State.queueLegal, State.noteActivity_irq] using hq) hs

theorem pipeLinked_of_whenEnabled {e : Bool} {r : Result} (h : whenEnabled e s r = .next t) (hs : s.pipeLinked)
    (hr : e = true → r = .next t → t.pipeLinked) : t.pipeLinked := by
  rcases whenEnabled_next h with ⟨he, h⟩ | ⟨-, rfl⟩
  · exact hr he h
  · exact hs

theorem pipeLinked_of_returning {r : Ret} (h : returning r u = .next t) (hu : u.pipeLinked) : t.pipeLinked := by
  obtain rfl := Host.Outcome.next.inj h
  exact hu

/-- A bus reset moves the engine's pointers, which say nothing while it is pending (R165). -/
theorem execEvBusReset_keeps_pipeLinked (h : execEvBusReset s = .next t) (hs : s.pipeLinked) : t.pipeLinked := by
  refine pipeLinked_of_whenEnabled h hs fun _ h => pipeLinked_of_returning h (noteActivity_pipeLinked ?_)
  refine pipeLinked_of (s := s) rfl id (fun hrx => ?_) (fun htx => ?_) (pipeIdle_of_view rfl) id hs
  · obtain ⟨hparity, hslice, hlinked⟩ := hrx
    exact ⟨hparity, hslice, (rxLinked_iff _).mpr (((rxLinked_iff s).mp hlinked).busReset false)⟩
  · obtain ⟨hparity, hslice, hlinked⟩ := htx
    exact ⟨hparity, hslice, (txLinked_iff _).mpr (((txLinked_iff s).mp hlinked).busReset false)⟩

theorem State.complete_desc (s : State) (d e : DescId) (r : Completion) :
    (s.complete d r).desc e = if e = d then { s.desc d with own := .firmware } else s.desc e :=
  s.desc_setDesc d e _

theorem queueLegal_append (hs : s.queueLegal) {r : Completion} (hr : r.legal) (h : t.irq.trn = s.irq.trn ++ [r]) :
    t.queueLegal := by
  intro e he
  rw [h, List.mem_append, List.mem_singleton] at he
  rcases he with he | rfl
  · exact hs e he
  · exact hr

/-- A record of endpoint 0 at the end of the queue is not of the pipe. -/
theorem State.complete_ep0_pipeView (s : State) {d : DescId} (hd : d = .ep0Out ∨ d = .ep0In) {r : Completion}
    (hr : r.ep = .ep0) : (s.complete d r).pipeView = s.pipeView := by
  have hqueue (k : TrnKind) : (s.complete d r).bulkQueue k = s.bulkQueue k := by
    have hne : r.ep ≠ .bulk := hr ▸ nofun
    exact halvesOf_append_of_ne (.inr hne) s.irq.trn
  have hdesc (e : DescId) (he : e ≠ .ep0Out ∧ e ≠ .ep0In) : (s.complete d r).desc e = s.desc e := by
    rw [State.complete_desc, if_neg]
    rcases hd with rfl | rfl
    · exact he.1
    · exact he.2
  simp only [State.pipeView, State.rxView, State.txView, State.idleView, hqueue, hdesc, ne_eq, reduceCtorEq,
    not_false_eq_true, and_self]
  rfl

theorem complete_ep0_pipeLinked {d : DescId} (hd : d = .ep0Out ∨ d = .ep0In) {r : Completion} (hr : r.ep = .ep0)
    (hs : s.pipeLinked) : (s.complete d r).pipeLinked := by
  have hlegal : r.legal := ⟨hr ▸ nofun, fun _ => hr⟩
  exact pipeLinked_of_view (s.complete_ep0_pipeView hd hr) (fun hq => queueLegal_append hq hlegal rfl) hs

/-- The bytes and the count of a received packet written (R163), before the descriptor is handed back. -/
def State.stored (s : State) (d : DescId) (bs : List Byte) : State :=
  (s.writeBufs d 0 bs).setDesc d { (s.writeBufs d 0 bs).desc d with count := BitVec.ofNat 10 bs.length }

theorem State.receive_eq (s : State) (d : DescId) (bs : List Byte) (r : Completion) :
    s.receive d bs r = (s.stored d bs).complete d r := rfl

theorem State.stored_desc (s : State) (d e : DescId) (bs : List Byte) :
    (s.stored d bs).desc e = if e = d then { s.desc d with count := BitVec.ofNat 10 bs.length } else s.desc e := by
  rw [State.stored, State.desc_setDesc]
  simp [State.desc]

theorem State.stored_owner (s : State) (d e : DescId) (bs : List Byte) :
    ((s.stored d bs).desc e).own = (s.desc e).own ∧ ((s.stored d bs).desc e).stall = (s.desc e).stall := by
  rw [State.stored_desc]
  split
  · rename_i he
    subst he
    exact ⟨rfl, rfl⟩
  · exact ⟨rfl, rfl⟩

@[simp] theorem State.stored_irq (s : State) (d : DescId) (bs : List Byte) : (s.stored d bs).irq = s.irq := by
  simp [State.stored]

@[simp] theorem State.stored_sie (s : State) (d : DescId) (bs : List Byte) : (s.stored d bs).sie = s.sie := by
  simp [State.stored]

@[simp] theorem State.stored_dev (s : State) (d : DescId) (bs : List Byte) : (s.stored d bs).dev = s.dev := by
  simp [State.stored]

theorem State.stored_pipeView (s : State) (d : DescId) (bs : List Byte) : (s.stored d bs).pipeView = s.pipeView := by
  simp only [State.pipeView, State.rxView, State.txView, State.idleView, State.stored_owner, State.bulkQueue,
    State.engineOn, State.stored_irq, State.stored_sie, State.stored_dev]
  simp [State.stored]

theorem stored_pipeLinked (hs : s.pipeLinked) (d : DescId) (bs : List Byte) : (s.stored d bs).pipeLinked :=
  pipeLinked_of_view (s.stored_pipeView d bs) (fun hq => by simpa [State.queueLegal] using hq) hs

/-- What the enabling of a bulk transaction gives (R162). -/
structure State.Transacts (s : State) (d : DescId) : Prop where
  attached : s.dev.state ≠ .detached
  noReset : s.irq.pending.reset = false
  owned : (s.desc d).own = .engine
  notStalled : (s.desc d).stall = false

theorem transacts_of_completable {d : DescId} (h : s.completable d = true) : s.Transacts d := by
  simp only [State.completable, State.transactionsOn, State.engineOwns, Bool.and_eq_true, decide_eq_true_eq,
    Bool.not_eq_true'] at h
  obtain ⟨⟨⟨hstate, hreset⟩, hown⟩, hstall⟩ := h
  exact ⟨hstate ▸ nofun, hreset, hown, hstall⟩

theorem State.Transacts.stored {d : DescId} (h : s.Transacts d) (bs : List Byte) : (s.stored d bs).Transacts d where
  attached := by simpa using h.attached
  noReset := by simpa using h.noReset
  owned := (s.stored_owner d d bs).1.trans h.owned
  notStalled := (s.stored_owner d d bs).2.trans h.notStalled

/-- The half at the engine's OUT pointer completes (R163). -/
theorem complete_rxRunning {h : Bit} {v : Sie} (hs : s.rxRunning) (ht : s.Transacts (.bulkOut h))
    (hh : h = s.sie.ppbiOut) (hv : v.ppbiOut = !s.sie.ppbiOut) :
    ((s.complete (.bulkOut h) { kind := .out, ep := .bulk, half := h }).setSie v).rxRunning := by
  obtain ⟨hparity, hslice, hlinked⟩ := hs
  refine ⟨hparity, hslice, (rxLinked_iff _).mpr ?_⟩
  show DirLinked s.rx.busy s.rx.eng v.ppbiOut s.irq.pending.reset _ (halvesOf .out (s.irq.trn ++ [_]))
  rw [hv, halvesOf_append, halvesOf_cons_bulk]
  refine ((rxLinked_iff s).mp hlinked).transaction ht.noReset hh ht.owned ?_ fun k hk => ?_
  · exact congrArg Bd.own (State.desc_setDesc_same s (.bulkOut h) _)
  · exact congrArg Bd.own (State.desc_setDesc_ne s _ (by simpa using hk))

/-- The half at the engine's IN pointer completes (R163). -/
theorem complete_txRunning {h : Bit} {v : Sie} (hs : s.txRunning) (ht : s.Transacts (.bulkIn h))
    (hh : h = s.sie.ppbiIn) (hv : v.ppbiIn = !s.sie.ppbiIn) :
    ((s.complete (.bulkIn h) { kind := .inp, ep := .bulk, half := h }).setSie v).txRunning := by
  obtain ⟨hparity, hslice, hlinked⟩ := hs
  refine ⟨hparity, hslice, (txLinked_iff _).mpr ?_⟩
  show DirLinked s.tx.busy s.tx.eng v.ppbiIn s.irq.pending.reset _ (halvesOf .inp (s.irq.trn ++ [_]))
  rw [hv, halvesOf_append, halvesOf_cons_bulk]
  refine ((txLinked_iff s).mp hlinked).transaction ht.noReset hh ht.owned ?_ fun k hk => ?_
  · exact congrArg Bd.own (State.desc_setDesc_same s (.bulkIn h) _)
  · exact congrArg Bd.own (State.desc_setDesc_ne s _ (by simpa using hk))

theorem complete_txView {h : Bit} {v : Sie} (hv : v.ppbiIn = s.sie.ppbiIn) :
    ((s.complete (.bulkOut h) { kind := .out, ep := .bulk, half := h }).setSie v).txView = s.txView := by
  have hqueue : halvesOf .inp (s.irq.trn ++ [{ kind := .out, ep := .bulk, half := h }]) = s.bulkQueue .inp :=
    halvesOf_append_of_ne (.inl (by simp)) s.irq.trn
  unfold State.txView
  rw [State.bulkQueue_eq]
  show (s.tx, v.ppbiIn, _, _, _, halvesOf .inp (s.irq.trn ++ [_])) = _
  rw [hv, hqueue]
  cases h <;> rfl

theorem complete_rxView {h : Bit} {v : Sie} (hv : v.ppbiOut = s.sie.ppbiOut) :
    ((s.complete (.bulkIn h) { kind := .inp, ep := .bulk, half := h }).setSie v).rxView = s.rxView := by
  have hqueue : halvesOf .out (s.irq.trn ++ [{ kind := .inp, ep := .bulk, half := h }]) = s.bulkQueue .out :=
    halvesOf_append_of_ne (.inl (by simp)) s.irq.trn
  unfold State.rxView
  rw [State.bulkQueue_eq]
  show (s.rx, v.ppbiOut, _, _, _, halvesOf .out (s.irq.trn ++ [_])) = _
  rw [hv, hqueue]
  cases h <;> rfl

/-- On a disarmed pipe every bulk descriptor of an attached device is stalled, so no bulk transaction completes (R162). -/
theorem armed_of_transacts {d : DescId} (hs : s.pipeLinked) (ht : s.Transacts d)
    (hd : ∃ h, d = .bulkOut h ∨ d = .bulkIn h) : s.pipeArmed = true := by
  by_contra harmed
  obtain ⟨-, -, -, -, hstall⟩ := pipeLinked_disarmed hs (Bool.eq_false_iff.mpr harmed)
  obtain ⟨hout0, hout1, hin0, hin1⟩ := hstall ht.attached
  have hstalled : (s.desc d).stall = true := by
    obtain ⟨h, rfl | rfl⟩ := hd <;> cases h <;> assumption
  exact Bool.false_ne_true (ht.notStalled.symm.trans hstalled)

theorem complete_bulkOut_pipeLinked {h : Bit} {v : Sie} (hs : s.pipeLinked) (ht : s.Transacts (.bulkOut h))
    (hh : h = s.sie.ppbiOut) (hout : v.ppbiOut = !s.sie.ppbiOut) (hin : v.ppbiIn = s.sie.ppbiIn) :
    ((s.complete (.bulkOut h) { kind := .out, ep := .bulk, half := h }).setSie v).pipeLinked := by
  have harmed := armed_of_transacts hs ht ⟨h, .inl rfl⟩
  obtain ⟨hdev, hrx, htx⟩ := pipeLinked_armed hs harmed
  exact pipeLinked_of_running harmed hdev (complete_rxRunning hrx ht hh hout)
    (txRunning_of_view (complete_txView hin) htx) (queueLegal_append hs.2 (by simp [Completion.legal]) rfl)

theorem complete_bulkIn_pipeLinked {h : Bit} {v : Sie} (hs : s.pipeLinked) (ht : s.Transacts (.bulkIn h))
    (hh : h = s.sie.ppbiIn) (hout : v.ppbiOut = s.sie.ppbiOut) (hin : v.ppbiIn = !s.sie.ppbiIn) :
    ((s.complete (.bulkIn h) { kind := .inp, ep := .bulk, half := h }).setSie v).pipeLinked := by
  have harmed := armed_of_transacts hs ht ⟨h, .inr rfl⟩
  obtain ⟨hdev, hrx, htx⟩ := pipeLinked_armed hs harmed
  exact pipeLinked_of_running harmed hdev (rxRunning_of_view (complete_rxView hout) hrx)
    (complete_txRunning htx ht hh hin) (queueLegal_append hs.2 (by simp [Completion.legal]) rfl)

theorem execEvTrnSetup_keeps_pipeLinked {packet : List Byte} (h : execEvTrnSetup packet s = .next t)
    (hs : s.pipeLinked) : t.pipeLinked :=
  pipeLinked_of_whenEnabled h hs fun _ h => pipeLinked_of_returning h
    (noteActivity_pipeLinked (complete_ep0_pipeLinked (.inl rfl) rfl (stored_pipeLinked hs .ep0Out packet)))

theorem execEvTrnOut_keeps_pipeLinked {ep : Endpoint} {half : Bit} {data : List Byte}
    (h : execEvTrnOut ep half data s = .next t) (hs : s.pipeLinked) : t.pipeLinked := by
  cases ep with
  | ep0 =>
    exact pipeLinked_of_whenEnabled h hs fun _ h => pipeLinked_of_returning h
      (noteActivity_pipeLinked (complete_ep0_pipeLinked (.inl rfl) rfl (stored_pipeLinked hs .ep0Out data)))
  | notif => exact pipeLinked_of_whenEnabled h hs nofun
  | bulk =>
    refine pipeLinked_of_whenEnabled h hs fun he h => pipeLinked_of_returning h (noteActivity_pipeLinked ?_)
    simp only [Bool.and_eq_true, beq_iff_eq] at he
    obtain ⟨⟨hcompletable, hpointer⟩, -⟩ := he
    have htrans := (transacts_of_completable hcompletable).stored data
    exact complete_bulkOut_pipeLinked (stored_pipeLinked hs _ data) htrans (by simpa using hpointer) (by simp) (by simp)

theorem execEvTrnIn_keeps_pipeLinked {ep : Endpoint} {half : Bit} (h : execEvTrnIn ep half s = .next t)
    (hs : s.pipeLinked) : t.pipeLinked := by
  cases ep with
  | ep0 =>
    exact pipeLinked_of_whenEnabled h hs fun _ h => pipeLinked_of_returning (withinBuffer_next h)
      (noteActivity_pipeLinked (complete_ep0_pipeLinked (.inr rfl) rfl (s := s.setWireIn _) hs))
  | notif => exact pipeLinked_of_whenEnabled h hs nofun
  | bulk =>
    refine pipeLinked_of_whenEnabled h hs fun he h =>
      pipeLinked_of_returning (withinBuffer_next h) (noteActivity_pipeLinked ?_)
    simp only [Bool.and_eq_true, beq_iff_eq] at he
    obtain ⟨hcompletable, hpointer⟩ := he
    obtain ⟨hdev, hreset, hown, hstall⟩ := transacts_of_completable hcompletable
    exact complete_bulkIn_pipeLinked (s := s.setWireIn _) hs ⟨hdev, hreset, hown, hstall⟩ hpointer rfl rfl

end

end Sys2Proof.Machine
end

section
/-! The pipe's invariant through the interrupt step and the device resets, and with it through every step. -/

namespace Sys2Proof.Machine

section
variable {s t u : State}

/-! ### Endpoint 0 and SET_CONFIGURATION (41_control_transfer.md R211; 42_bulk_pipe.md R285, R286) -/

theorem pipeView_of_onEp0 (h : OnEp0 s t) : t.pipeView = s.pipeView ∧ t.irq = s.irq := by
  induction h with
  | refl => exact ⟨rfl, rfl⟩
  | desc _ d v hd _ ih =>
    obtain ⟨hview, hirq⟩ := ih
    refine ⟨Eq.trans ?_ hview, hirq⟩
    rcases hd with rfl | rfl <;> rfl
  | bytes _ bs _ ih =>
    obtain ⟨hview, hirq⟩ := ih
    refine ⟨Eq.trans ?_ hview, by simpa using hirq⟩
    simp [State.pipeView, State.rxView, State.txView, State.idleView, State.engineOn, State.bulkQueue, State.desc]
  | dev _ v hstate _ ih =>
    obtain ⟨hview, hirq⟩ := ih
    refine ⟨Eq.trans ?_ hview, hirq⟩
    simp only [State.pipeView, State.idleView, State.engineOn, State.setDev_dev, hstate]
    rfl
  | ctl _ _ ih | lc _ _ _ ih | reason _ _ ih | ret _ _ ih => exact ih

theorem onEp0_keeps_pipeLinked (h : OnEp0 s t) (hs : s.pipeLinked) : t.pipeLinked := by
  obtain ⟨hview, hirq⟩ := pipeView_of_onEp0 h
  exact pipeLinked_of_view hview (fun hq => by unfold State.queueLegal; rwa [hirq]) hs

theorem halvesOf_eq_nil {q : List Completion} (h : (q.any fun e => decide (e.ep = .bulk)) = false) (k : TrnKind) :
    halvesOf k q = [] := by
  simp only [List.any_eq_false, decide_eq_true_eq] at h
  simp only [halvesOf, List.map_eq_nil_iff, List.filter_eq_nil_iff]
  intro e he
  simp [h e he]

/-- Set-up with nothing in flight: both OUT halves with the engine, both IN halves with the firmware (R285). -/
theorem State.pipeSetup_pipeLinked (hdev : s.dev.state ≠ .detached) (hfree : s.bulkInFlight = false)
    (hlegal : s.queueLegal) : s.pipeSetup.pipeLinked := by
  have hqueue (k : TrnKind) : s.pipeSetup.bulkQueue k = [] := by
    rw [State.bulkQueue_eq, State.pipeSetup_irq]
    exact halvesOf_eq_nil hfree k
  have hrx : s.pipeSetup.rxRunning := by
    refine ⟨rfl, nofun, (rxLinked_iff _).mpr ?_⟩
    rw [hqueue]
    exact .of_empty (fun k => by cases k <;> rfl) rfl
  have htx : s.pipeSetup.txRunning := by
    refine ⟨rfl, nofun, (txLinked_iff _).mpr ?_⟩
    rw [hqueue]
    exact .of_empty (fun k => by cases k <;> rfl) rfl
  exact pipeLinked_of_running rfl (by simpa using hdev) hrx htx (by simpa [State.queueLegal] using hlegal)

/-- Tear-down with nothing in flight: nothing busy, every bulk descriptor stalled (R286, R287). -/
theorem State.pipeTeardown_pipeLinked (hfree : s.bulkInFlight = false) (hlegal : s.queueLegal) :
    s.pipeTeardown.pipeLinked := by
  have hqueue (k : TrnKind) : s.pipeTeardown.bulkQueue k = [] := by
    rw [State.bulkQueue_eq, State.pipeTeardown_irq]
    exact halvesOf_eq_nil hfree k
  refine pipeLinked_of_idle rfl ⟨rfl, rfl, hqueue _, hqueue _, fun _ => ⟨rfl, rfl, rfl, rfl⟩⟩ ?_
  simpa [State.queueLegal] using hlegal

theorem setupStep_keeps_pipeLinked {i : Instr} (h : SetupStep s i t) (hdev : s.dev.state ≠ .detached)
    (hs : s.pipeLinked) : t.pipeLinked := by
  rcases h.cases with h | ⟨hfree, u, hu, h⟩
  · exact onEp0_keeps_pipeLinked h hs
  · obtain ⟨hview, hirq⟩ := pipeView_of_onEp0 hu
    have hon : u.engineOn = s.engineOn := congrArg (fun v => v.2.2.2.1) hview
    have hdev : u.dev.state ≠ .detached := by rwa [← engineOn_iff, hon, engineOn_iff]
    have hfree : u.bulkInFlight = false := by rwa [State.bulkInFlight, hirq]
    have hlegal : u.queueLegal := by
      unfold State.queueLegal
      rw [hirq]
      exact hs.2
    rcases h with h | h
    · exact onEp0_keeps_pipeLinked h (State.pipeSetup_pipeLinked hdev hfree hlegal)
    · exact onEp0_keeps_pipeLinked h (State.pipeTeardown_pipeLinked hfree hlegal)

/-! ### The TRN source (40_device_events.md R172; 42_bulk_pipe.md R290, R291) -/

theorem queueLegal_tail {e : Completion} {rest : List Completion} (htrn : s.irq.trn = e :: rest) (hs : s.queueLegal) :
    (s.setTrn rest).queueLegal :=
  fun r hr => hs r (htrn ▸ List.mem_cons_of_mem e hr)

/-- A record of endpoint 0 taken from the queue is not of the pipe. -/
theorem setTrn_ep0_pipeLinked {e : Completion} {rest : List Completion} (htrn : s.irq.trn = e :: rest)
    (he : e.ep = .ep0) (hs : s.pipeLinked) : (s.setTrn rest).pipeLinked := by
  have hqueue (k : TrnKind) : (s.setTrn rest).bulkQueue k = s.bulkQueue k := by
    rw [State.bulkQueue_eq s, htrn, halvesOf_cons_of_ne (.inr (he ▸ nofun))]
    rfl
  refine pipeLinked_of_view ?_ (queueLegal_tail htrn) hs
  simp only [State.pipeView, State.rxView, State.txView, State.idleView, hqueue]
  rfl

theorem halvesOf_tail_of_ne {k : TrnKind} {e : Completion} {rest : List Completion} (htrn : s.irq.trn = e :: rest)
    (he : e.kind ≠ k) : s.bulkQueue k = halvesOf k rest := by
  rw [State.bulkQueue_eq, htrn, halvesOf_cons_of_ne (.inl he)]

/-- The bookkeeping of an OUT half taken from the queue (R290). -/
theorem bulkOut_taken_pipeLinked {half : Bit} {rest : List Completion}
    (htrn : s.irq.trn = { kind := .out, ep := .bulk, half := half } :: rest)
    (h : bulkOutComplete half (s.setTrn rest) = .next t) (hs : s.pipeLinked) : t.pipeLinked := by
  obtain ⟨harmed, rfl, hbusy, rfl⟩ := bulkOutComplete_next h
  obtain ⟨hdev, ⟨hparity, hslice, hlinked⟩, htx⟩ := pipeLinked_armed hs harmed
  refine pipeLinked_of_running harmed hdev ⟨Rx.parity_complete hparity hbusy, fun x hx => ?_, (rxLinked_iff _).mpr ?_⟩
    (txRunning_of_view ?_ htx) (queueLegal_tail htrn hs.2)
  · obtain ⟨hhalf, hfree⟩ := hslice x hx
    exact ⟨hhalf, Busy.get_put_false hfree _⟩
  · have hl := (rxLinked_iff s).mp hlinked
    rw [State.bulkQueue_eq, htrn, halvesOf_cons_bulk] at hl
    exact hl.complete
  · unfold State.txView
    rw [halvesOf_tail_of_ne htrn (by simp)]
    rfl

/-- The bookkeeping of an IN half taken from the queue (R291). -/
theorem bulkIn_taken_pipeLinked {half : Bit} {rest : List Completion}
    (htrn : s.irq.trn = { kind := .inp, ep := .bulk, half := half } :: rest)
    (h : bulkInComplete half (s.setTrn rest) = .next t) (hs : s.pipeLinked) : t.pipeLinked := by
  obtain ⟨harmed, rfl, hbusy, rfl⟩ := bulkInComplete_next h
  obtain ⟨hdev, hrx, ⟨hparity, hslice, hlinked⟩⟩ := pipeLinked_armed hs harmed
  refine pipeLinked_of_running harmed hdev (rxRunning_of_view ?_ hrx)
    ⟨Tx.parity_complete hparity hbusy, fun x hx => ?_, (txLinked_iff _).mpr ?_⟩ (queueLegal_tail htrn hs.2)
  · unfold State.rxView
    rw [halvesOf_tail_of_ne htrn (by simp)]
    rfl
  · obtain ⟨hhalf, hfree⟩ := hslice x hx
    exact ⟨hhalf, Busy.get_put_false hfree _⟩
  · have hl := (txLinked_iff s).mp hlinked
    rw [State.bulkQueue_eq, htrn, halvesOf_cons_bulk] at hl
    exact hl.complete

theorem handleTrn_keeps_pipeLinked (h : handleTrn s = .next t) (hdev : s.dev.state ≠ .detached) (hs : s.pipeLinked) :
    t.pipeLinked := by
  rcases handleTrn_next h with rfl | ⟨e, rest, htrn, h⟩
  · exact hs
  · rcases handleCompletion_next h with ⟨he, h⟩ | ⟨he, h⟩ | ⟨he, h⟩
    · have htaken := setTrn_ep0_pipeLinked htrn he hs
      rcases h with h | ⟨i, h⟩
      · exact onEp0_keeps_pipeLinked h htaken
      · exact setupStep_keeps_pipeLinked h hdev htaken
    · exact bulkOut_taken_pipeLinked (he ▸ htrn) h hs
    · exact bulkIn_taken_pipeLinked (he ▸ htrn) h hs

/-! ### Resets -/

theorem State.usbResetInit_trn (s : State) : s.usbResetInit.irq.trn = s.irq.trn := by
  rw [State.usbResetInit_eq]
  rfl

theorem State.usbResetInit_pipeArmed (s : State) : s.usbResetInit.pipeArmed = false := by
  rw [State.usbResetInit_eq]
  rfl

/-- The bus-reset initialisation disarms the pipe and stalls every descriptor (R166). -/
theorem usbResetInit_pipeIdle (hout : t.bulkQueue .out = []) (hinp : t.bulkQueue .inp = [])
    (hview : t.rx = s.usbResetInit.rx ∧ t.tx = s.usbResetInit.tx ∧ t.bd = s.usbResetInit.bd) : t.pipeIdle := by
  obtain ⟨hrx, htx, hbd⟩ := hview
  rw [State.usbResetInit_eq] at hrx htx hbd
  unfold State.pipeIdle State.desc
  rw [hrx, htx, hbd]
  exact ⟨rfl, rfl, hout, hinp, fun _ => ⟨rfl, rfl, rfl, rfl⟩⟩

theorem handleReset_pipeLinked (h : handleReset s = .next t) : t.pipeLinked := by
  obtain rfl := Host.Outcome.next.inj h
  exact pipeLinked_of_idle s.usbResetInit_pipeArmed (usbResetInit_pipeIdle (s := s) rfl rfl ⟨rfl, rfl, rfl⟩) nofun

theorem execIrq_keeps_pipeLinked (h : execIrq s = .next t) (hs : s.pipeLinked) : t.pipeLinked := by
  rcases execIrq_next h with rfl | ⟨hdev, src, -, h⟩
  · exact hs
  · cases src with
    | trn => exact handleTrn_keeps_pipeLinked h hdev hs
    | reset => exact handleReset_pipeLinked h
    | idle | error =>
      obtain rfl := Host.Outcome.next.inj h
      exact pipeLinked_of_view (s := s) rfl id hs
    | activity =>
      change handleActivity s = .next t at h
      unfold handleActivity at h
      dsimp only at h
      split at h <;> obtain rfl := Host.Outcome.next.inj h <;> exact pipeLinked_of_view (s := s) rfl id hs

/-- ATTACH meets a disarmed pipe with nothing of it in the queue (R292). -/
theorem execAttach_keeps_pipeLinked (h : execAttach s = .next t) (hs : s.pipeLinked) : t.pipeLinked := by
  rcases whenAwake_next h with ⟨-, h⟩ | ⟨-, rfl⟩
  · split at h
    · rename_i hdetached
      obtain rfl := Host.Outcome.next.inj h
      have hdisarmed : s.pipeArmed = false :=
        Bool.eq_false_iff.mpr fun harmed => (pipeLinked_armed hs harmed).1 hdetached
      obtain ⟨-, -, hout, hinp, -⟩ := pipeLinked_disarmed hs hdisarmed
      refine pipeLinked_of_idle s.usbResetInit_pipeArmed (usbResetInit_pipeIdle (s := s) ?_ ?_ ⟨rfl, rfl, rfl⟩) ?_
      · exact (congrArg (halvesOf .out) s.usbResetInit_trn).trans hout
      · exact (congrArg (halvesOf .inp) s.usbResetInit_trn).trans hinp
      · exact fun e he => hs.2 e (s.usbResetInit_trn ▸ he)
    · obtain rfl := Host.Outcome.next.inj h
      exact hs
  · exact hs

/-- EV_SE0_EXIT stays on an attached device (R164). -/
theorem execEvSe0Exit_keeps_pipeLinked (h : execEvSe0Exit s = .next t) (hs : s.pipeLinked) : t.pipeLinked := by
  refine pipeLinked_of_whenEnabled h hs fun hstate h => pipeLinked_of_returning h ?_
  refine pipeLinked_of_view (s := s) ?_ id hs
  have hstate : s.dev.state = .attached := of_decide_eq_true hstate
  simp only [State.pipeView, State.idleView, State.engineOn, State.setDev_dev, hstate]
  rfl

theorem State.deviceReset_pipeLinked (s : State) : s.deviceReset.pipeLinked :=
  pipeLinked_of_block s.deviceReset_block (State.powerOn_pipeLinked _ _)

/-- Every operation of the port keeps the pipe linked. -/
theorem exec_keeps_pipeLinked {i : Instr} (hi : i.ofPort) (h : exec i s = .next t) (hs : s.pipeLinked) :
    t.pipeLinked := by
  cases i, hi using Instr.ofPort_elim with
  | evSe0Exit => exact execEvSe0Exit_keeps_pipeLinked h hs
  | evBusReset => exact execEvBusReset_keeps_pipeLinked h hs
  | evIdle =>
    exact pipeLinked_of_whenEnabled h hs fun _ h => pipeLinked_of_returning h
      (noteActivity_pipeLinked (pipeLinked_of_view (s := s) rfl id hs))
  | evActivity =>
    exact pipeLinked_of_whenEnabled h hs fun _ h => pipeLinked_of_returning h
      (pipeLinked_of_view (s := s) rfl id hs)
  | evError classes =>
    exact pipeLinked_of_whenEnabled h hs fun _ h => pipeLinked_of_returning h
      (noteActivity_pipeLinked (pipeLinked_of_view (s := s) rfl id hs))
  | evTrnSetup packet => exact execEvTrnSetup_keeps_pipeLinked h hs
  | evTrnOut ep half data => exact execEvTrnOut_keeps_pipeLinked h hs
  | evTrnIn ep half => exact execEvTrnIn_keeps_pipeLinked h hs
  | attach => exact execAttach_keeps_pipeLinked h hs
  | acqRx => exact execAcqRx_keeps_pipeLinked h hs
  | rxRead index =>
    rw [execRxRead_frame h]
    exact hs
  | rxTake count => exact execRxTake_keeps_pipeLinked h hs
  | acqTx => exact execAcqTx_keeps_pipeLinked h hs
  | txPut byte => exact execTxPut_keeps_pipeLinked h hs
  | flush => exact execFlush_keeps_pipeLinked h hs
  | isActive | csEnter =>
    rcases whenAwake_next h with ⟨-, h⟩ | ⟨-, rfl⟩
    · obtain rfl := Host.Outcome.next.inj h
      exact pipeLinked_of_view (s := s) rfl id hs
    · exact hs
  | csExit =>
    rcases execCsExit_next h with ⟨saved, rest, -, rfl⟩ | rfl
    · exact pipeLinked_of_view (s := s) rfl id hs
    · exact hs
  | sleep =>
    rcases whenAwake_next h with ⟨-, h⟩ | ⟨-, rfl⟩
    · obtain rfl := Host.Outcome.next.inj h
      split <;> exact hs
    · exact hs
  | resetExec =>
    rcases execResetExec_next h with ⟨-, rfl⟩ | ⟨r, rfl⟩
    · exact s.deviceReset_pipeLinked
    · exact hs
  | irq => exact execIrq_keeps_pipeLinked h hs
  | watchdog =>
    rcases execWatchdog_next h with ⟨-, rfl⟩ | ⟨r, rfl⟩
    · exact s.deviceReset_pipeLinked
    · exact hs

end

/-- Settles O51: the link is an invariant of the block, which every operation of the port keeps. -/
theorem everyStepKeepsThePipeLinked : Obligations.EveryStepKeepsThePipeLinked :=
  fun _ _ hs h => step_keeps_block pipeLinked_of_block exec_keeps_pipeLinked h hs

end Sys2Proof.Machine
end

section
/-! Counts and slices stay inside their buffers (10_state.md R38, R40, R51; 20_memory.md R81), and no step reaches past one. -/

namespace Sys2Proof.Machine

/-! ### What the invariant looks at -/

theorem mem_allDescs (d : DescId) : d ∈ allDescs := by
  rcases d with _ | _ | _ | h | h <;> (try cases h) <;> decide

/-- The count of every descriptor of `t` is the one of `s`, or one that its buffer holds (R40). -/
structure State.KeepsCounts (s t : State) : Prop where
  cfg : t.cfg = s.cfg
  count (d : DescId) : (t.desc d).count = (s.desc d).count ∨ (t.desc d).count.toNat ≤ capacity s.cfg d

section
variable {s t u : State}

theorem State.KeepsCounts.trans (h : s.KeepsCounts t) (k : t.KeepsCounts u) : s.KeepsCounts u where
  cfg := k.cfg.trans h.cfg
  count d := by
    rcases k.count d with hk | hk
    · rw [hk]
      exact h.count d
    · rw [h.cfg] at hk
      exact .inr hk

theorem State.KeepsCounts.of_bd (hbd : t.bd = s.bd) (hcfg : t.cfg = s.cfg) : s.KeepsCounts t :=
  ⟨hcfg, fun d => .inl (by rw [State.desc, hbd]; rfl)⟩

theorem State.KeepsCounts.congr (h : s.KeepsCounts t) (hbd : u.bd = t.bd) (hcfg : u.cfg = t.cfg) : s.KeepsCounts u :=
  h.trans (.of_bd hbd hcfg)

/-- A descriptor written with its own count, or with one its buffer holds. -/
theorem State.keepsCounts_setDesc {d : DescId} {v : Bd}
    (hv : v.count = (s.desc d).count ∨ v.count.toNat ≤ capacity s.cfg d) : s.KeepsCounts (s.setDesc d v) where
  cfg := rfl
  count e := by
    rw [State.desc_setDesc]
    split
    · rename_i he
      subst he
      exact hv
    · exact .inl rfl

theorem State.keepsCounts_arm (s : State) {d : DescId} {n : Nat} (hn : n ≤ capacity s.cfg d) (t : Bit) :
    s.KeepsCounts (s.arm d n t) :=
  State.keepsCounts_setDesc (.inr ((toNat_ofNat10_le n).trans hn))

theorem State.keepsCounts_setStalled (s : State) (d : DescId) : s.KeepsCounts (s.setStalled d) :=
  State.keepsCounts_setDesc (.inr (toNat_ofNat10_le _))

theorem State.keepsCounts_idleBulkIn (s : State) (h : Bit) : s.KeepsCounts (s.idleBulkIn h) :=
  State.keepsCounts_setDesc (.inr (Nat.zero_le _))

theorem State.keepsCounts_stored (s : State) {d : DescId} {bs : List Byte} (hlen : bs.length ≤ capacity s.cfg d) :
    s.KeepsCounts (s.stored d bs) where
  cfg := by simp [State.stored]
  count e := by
    rw [State.stored_desc]
    split
    · rename_i he
      subst he
      exact .inr ((toNat_ofNat10_le _).trans hlen)
    · exact .inl rfl

theorem State.keepsCounts_complete (s : State) (d : DescId) (r : Completion) : s.KeepsCounts (s.complete d r) :=
  (State.keepsCounts_setDesc (v := { s.desc d with own := .firmware }) (.inl rfl)).congr rfl rfl

theorem State.keepsCounts_noteActivity (s : State) : s.KeepsCounts s.noteActivity :=
  .of_bd s.noteActivity_bd s.noteActivity_cfg

theorem keepsCounts_of_onEp0 (h : OnEp0 s t) : s.KeepsCounts t := by
  induction h with
  | refl => exact .of_bd rfl rfl
  | desc _ d v _ hv ih => exact ih.trans (State.keepsCounts_setDesc hv)
  | bytes _ bs _ ih => exact ih.trans (.of_bd (State.writeBufs_bd _ _ _ _) (State.writeBufs_cfg _ _ _ _))
  | ctl _ _ ih | lc _ _ _ ih | dev _ _ _ _ ih | reason _ _ ih | ret _ _ ih => exact ih.congr rfl rfl

theorem rxSliceInHalf_of_none (h : t.rx.slice = none) : t.rxSliceInHalf := by
  simp [State.rxSliceInHalf, h]

theorem txSliceFull_of_none (h : t.tx.slice = none) : t.txSliceFull := by
  simp [State.txSliceFull, h]

/-- The slices and the device side of `inBounds`. -/
def State.sliceView (s : State) := (s.engineOn, s.pipeArmed, s.rx.slice, s.tx.slice)

/-- On an attached device every count fits its buffer. -/
theorem inBounds_fits (hs : s.inBounds) (hdev : s.dev.state ≠ .detached) (d : DescId) :
    (s.desc d).count.toNat ≤ capacity s.cfg d :=
  hs.1 hdev d (mem_allDescs d)

theorem inBounds_of (hcounts : s.KeepsCounts t) (hon : t.engineOn = s.engineOn) (hrx : t.rxSliceInHalf)
    (htx : t.txSliceFull) (harmed : t.pipeArmed = true → t.dev.state ≠ .detached) (hs : s.inBounds) : t.inBounds := by
  refine ⟨fun hdev d _ => ?_, hrx, htx, harmed⟩
  have hdev : s.dev.state ≠ .detached := by rwa [← engineOn_iff, ← hon, engineOn_iff]
  rw [hcounts.cfg]
  rcases hcounts.count d with hc | hc
  · rw [hc]
    exact inBounds_fits hs hdev d
  · exact hc

theorem inBounds_of_sliceView (hcounts : s.KeepsCounts t) (hview : t.sliceView = s.sliceView) (hs : s.inBounds) :
    t.inBounds := by
  simp only [State.sliceView, Prod.mk.injEq] at hview
  obtain ⟨hon, harmed, hrx, htx⟩ := hview
  obtain ⟨hfits, hrxs, htxs, harmeds⟩ := hs
  refine inBounds_of hcounts hon ?_ ?_ ?_ ⟨hfits, hrxs, htxs, harmeds⟩
  · unfold State.rxSliceInHalf
    rwa [hrx]
  · unfold State.txSliceFull
    rwa [htx]
  · rwa [harmed, ← engineOn_iff, hon, engineOn_iff]

theorem inBounds_of_block (h : t.block = s.block) (hs : s.inBounds) : t.inBounds := by
  simp only [State.block, Block.mk.injEq] at h
  obtain ⟨hstate, -, -, -, -, hbd, -, harmed, hrx, htx, -, -, hcfg⟩ := h
  refine inBounds_of_sliceView (.of_bd hbd hcfg) ?_ hs
  simp only [State.sliceView, State.engineOn, hstate, harmed, hrx, htx]

/-! ### Endpoint 0 and the pipe's set-up and tear-down -/

theorem sliceView_of_onEp0 (h : OnEp0 s t) : t.sliceView = s.sliceView := by
  induction h with
  | refl => rfl
  | bytes _ bs _ ih =>
    rw [← ih]
    simp [State.sliceView, State.engineOn]
  | dev _ v hstate _ ih =>
    rw [← ih]
    simp [State.sliceView, State.engineOn, hstate]
  | ctl _ _ ih | desc _ _ _ _ _ ih | lc _ _ _ ih | reason _ _ ih | ret _ _ ih => exact ih

theorem onEp0_keeps_inBounds (h : OnEp0 s t) (hs : s.inBounds) : t.inBounds :=
  inBounds_of_sliceView (keepsCounts_of_onEp0 h) (sliceView_of_onEp0 h) hs

theorem State.keepsCounts_pipeSetup (s : State) : s.KeepsCounts s.pipeSetup := by
  have hout0 := s.keepsCounts_arm (d := .bulkOut false) (n := 64) (le_refl _) false
  have hin0 := hout0.trans (State.keepsCounts_idleBulkIn _ false)
  have hout1 := hin0.trans (State.keepsCounts_arm _ (d := .bulkOut true) (n := 64) (le_refl _) true)
  exact (hout1.trans (State.keepsCounts_idleBulkIn _ true)).congr rfl rfl

theorem State.keepsCounts_pipeTeardown (s : State) : s.KeepsCounts s.pipeTeardown := by
  have hout0 := s.keepsCounts_setStalled (.bulkOut false)
  have hout1 := hout0.trans (State.keepsCounts_setStalled _ (.bulkOut true))
  have hin0 := hout1.trans (State.keepsCounts_setStalled _ (.bulkIn false))
  exact (hin0.trans (State.keepsCounts_setStalled _ (.bulkIn true))).congr rfl rfl

/-- Set-up and tear-down drop both slices (R285, R287). -/
theorem pipeSetup_inBounds (hs : s.inBounds) (hdev : s.dev.state ≠ .detached) : s.pipeSetup.inBounds := by
  have hrx : s.pipeSetup.rx.slice = none := rfl
  have htx : s.pipeSetup.tx.slice = none := rfl
  refine inBounds_of s.keepsCounts_pipeSetup (by simp [State.engineOn]) ?_ ?_ (fun _ => by simpa using hdev) hs
  · exact rxSliceInHalf_of_none hrx
  · exact txSliceFull_of_none htx

theorem pipeTeardown_inBounds (hs : s.inBounds) : s.pipeTeardown.inBounds := by
  have hrx : s.pipeTeardown.rx.slice = none := rfl
  have htx : s.pipeTeardown.tx.slice = none := rfl
  have harmed : s.pipeTeardown.pipeArmed = false := rfl
  refine inBounds_of s.keepsCounts_pipeTeardown (by simp [State.engineOn]) ?_ ?_ (by simp [harmed]) hs
  · exact rxSliceInHalf_of_none hrx
  · exact txSliceFull_of_none htx

theorem setupStep_keeps_inBounds {i : Instr} (h : SetupStep s i t) (hdev : s.dev.state ≠ .detached) (hs : s.inBounds) :
    t.inBounds := by
  rcases h.cases with h | ⟨-, u, hu, h⟩
  · exact onEp0_keeps_inBounds h hs
  · have hus : u.inBounds := onEp0_keeps_inBounds hu hs
    have hon : u.engineOn = s.engineOn := congrArg Prod.fst (sliceView_of_onEp0 hu)
    have hdevu : u.dev.state ≠ .detached := by rwa [← engineOn_iff, hon, engineOn_iff]
    rcases h with h | h
    · exact onEp0_keeps_inBounds h (pipeSetup_inBounds hus hdevu)
    · exact onEp0_keeps_inBounds h (pipeTeardown_inBounds hus)

/-! ### The engine's acts -/

theorem inBounds_of_whenEnabled {e : Bool} {r : Result} (h : whenEnabled e s r = .next t) (hs : s.inBounds)
    (hr : e = true → r = .next t → t.inBounds) : t.inBounds := by
  rcases whenEnabled_next h with ⟨he, h⟩ | ⟨-, rfl⟩
  · exact hr he h
  · exact hs

theorem inBounds_of_returning {r : Ret} (h : returning r u = .next t) (hu : u.inBounds) : t.inBounds := by
  obtain rfl := Host.Outcome.next.inj h
  exact hu

theorem noteActivity_inBounds (hs : s.inBounds) : s.noteActivity.inBounds :=
  inBounds_of_sliceView s.keepsCounts_noteActivity (by simp [State.sliceView, State.engineOn]) hs

theorem complete_inBounds (hs : s.inBounds) (d : DescId) (r : Completion) : (s.complete d r).inBounds :=
  inBounds_of_sliceView (s.keepsCounts_complete d r) rfl hs

theorem receive_inBounds (hs : s.inBounds) {d : DescId} {bs : List Byte} (hlen : bs.length ≤ capacity s.cfg d)
    (r : Completion) : (s.receive d bs r).inBounds := by
  rw [State.receive_eq]
  refine complete_inBounds (inBounds_of_sliceView (s.keepsCounts_stored hlen) ?_ hs) d r
  simp [State.sliceView, State.engineOn, State.stored]

theorem transmit_inBounds (hs : s.inBounds) (d : DescId) (r : Completion) : (s.transmit d r).inBounds :=
  complete_inBounds (s := s.setWireIn (s.wireIn ++ [s.wirePacket d r.ep])) hs d r

theorem eight_le_ep0Size (z : Ep0Size) : 8 ≤ z.bytes := by
  cases z <;> decide

theorem execEvTrnSetup_keeps_inBounds {packet : List Byte} (h : execEvTrnSetup packet s = .next t) (hs : s.inBounds) :
    t.inBounds := by
  refine inBounds_of_whenEnabled h hs fun he h => inBounds_of_returning h (noteActivity_inBounds (receive_inBounds hs ?_ _))
  simp only [Bool.and_eq_true, beq_iff_eq] at he
  exact he.2.trans_le (eight_le_ep0Size _)

theorem execEvTrnOut_keeps_inBounds {ep : Endpoint} {half : Bit} {data : List Byte}
    (h : execEvTrnOut ep half data s = .next t) (hs : s.inBounds) : t.inBounds := by
  cases ep with
  | ep0 =>
    refine inBounds_of_whenEnabled h hs fun he h =>
      inBounds_of_returning h (noteActivity_inBounds (receive_inBounds hs ?_ _))
    simp only [Bool.and_eq_true, decide_eq_true_eq] at he
    exact he.1.2
  | notif => exact inBounds_of_whenEnabled h hs nofun
  | bulk =>
    refine inBounds_of_whenEnabled h hs fun he h => inBounds_of_returning h (noteActivity_inBounds ?_)
    simp only [Bool.and_eq_true, decide_eq_true_eq] at he
    exact receive_inBounds hs (d := .bulkOut half) he.2 { kind := .out, ep := .bulk, half := half }

theorem execEvTrnIn_keeps_inBounds {ep : Endpoint} {half : Bit} (h : execEvTrnIn ep half s = .next t)
    (hs : s.inBounds) : t.inBounds := by
  cases ep with
  | ep0 =>
    exact inBounds_of_whenEnabled h hs fun _ h =>
      inBounds_of_returning (withinBuffer_next h) (noteActivity_inBounds (transmit_inBounds hs _ _))
  | notif => exact inBounds_of_whenEnabled h hs nofun
  | bulk =>
    exact inBounds_of_whenEnabled h hs fun _ h =>
      inBounds_of_returning (withinBuffer_next h) (noteActivity_inBounds (transmit_inBounds hs _ _))

/-! ### The pipe's firmware operations -/

/-- A re-armed half has the count 64 (R272), and the exhausted slice is gone. -/
theorem rxRecycle_inBounds (hs : s.inBounds) : s.rxRecycle.inBounds := by
  unfold State.rxRecycle
  split
  · rename_i x _
    split
    · have hcounts := s.keepsCounts_arm (d := .bulkOut x.half) (n := 64) (le_refl _) x.half
      exact inBounds_of (hcounts.congr rfl rfl) rfl nofun hs.2.2.1 hs.2.2.2 hs
    · exact hs
  · exact hs

/-- An exposed slice is as long as the count of its half (R275). -/
theorem rxAcquire_inBounds (hs : s.inBounds) (hdev : s.dev.state ≠ .detached) : s.rxAcquire.inBounds := by
  unfold State.rxAcquire
  split
  · exact hs
  · rcases s.rxTryExpose_cases with h | ⟨-, h⟩
    · rwa [h]
    · rw [h]
      obtain ⟨hcounts, -, htx, harmed⟩ := hs
      refine ⟨hcounts, fun x hx => ?_, htx, harmed⟩
      obtain rfl := Option.mem_some.mp hx
      rw [Nat.zero_add]
      exact hcounts hdev (.bulkOut s.rx.next) (mem_allDescs _)

theorem execAcqRx_keeps_inBounds (h : execAcqRx s = .next t) (hs : s.inBounds) : t.inBounds := by
  rcases whenAwake_next h with ⟨-, h⟩ | ⟨-, rfl⟩
  · split at h
    · rename_i harmed
      have hdev : s.rxRecycle.dev.state ≠ .detached := by
        rw [State.rxRecycle_frame]
        exact hs.2.2.2 harmed
      exact inBounds_of_returning h (rxAcquire_inBounds (rxRecycle_inBounds hs) hdev)
    · exact inBounds_of_returning h hs
  · exact hs

/-- RX_TAKE moves bytes from the length to the offset (R274). -/
theorem execRxTake_keeps_inBounds {n : Byte} (h : execRxTake n s = .next t) (hs : s.inBounds) : t.inBounds := by
  rcases whenAwake_next h with ⟨-, h⟩ | ⟨-, rfl⟩
  · split at h
    · cases h
    · rename_i x hx
      split at h
      · cases h
      · rename_i hlen
        obtain rfl := Host.Outcome.next.inj h
        obtain ⟨hcounts, hrx, htx, harmed⟩ := hs
        refine ⟨hcounts, fun y hy => ?_, htx, harmed⟩
        obtain rfl := Option.mem_some.mp hy
        have hhalf := hrx x hx
        dsimp only
        omega
  · exact hs

theorem txTryAcquire_inBounds (hs : s.inBounds) : s.txTryAcquire.inBounds := by
  rcases s.txTryAcquire_cases with h | ⟨-, -, h⟩
  · rwa [h]
  · rw [h]
    obtain ⟨hcounts, hrx, -, harmed⟩ := hs
    exact ⟨hcounts, hrx, fun x hx => Option.mem_some.mp hx ▸ rfl, harmed⟩

/-- A slice of 64 bytes has at most 64 to send (R280). -/
theorem flushSlice_inBounds (hs : s.inBounds) {x : TxSlice} (hx : x.fill + x.rem = 64) :
    (s.flushSlice x).2.inBounds := by
  rcases s.flushSlice_cases x with ⟨h, -⟩ | ⟨h, -⟩ <;> rw [h]
  · exact hs
  · have hfill : x.fill ≤ 64 := by omega
    have hcounts := s.keepsCounts_arm (d := .bulkIn x.half) hfill x.half
    exact txTryAcquire_inBounds (inBounds_of (hcounts.congr rfl rfl) rfl hs.2.1 nofun hs.2.2.2 hs)

theorem flushBody_inBounds (hs : s.inBounds) : s.flushBody.2.inBounds := by
  unfold State.flushBody
  split
  · rename_i x hx
    exact flushSlice_inBounds hs (hs.2.2.1 x hx)
  · have htry := txTryAcquire_inBounds hs
    split
    · split
      · rename_i x hx
        exact flushSlice_inBounds htry (htry.2.2.1 x hx)
      · exact htry
    · exact hs

theorem txRecycle_inBounds (hs : s.inBounds) : s.txRecycle.inBounds := by
  unfold State.txRecycle
  split
  · split
    · exact flushBody_inBounds hs
    · exact hs
  · exact hs

theorem execAcqTx_keeps_inBounds (h : execAcqTx s = .next t) (hs : s.inBounds) : t.inBounds := by
  rcases whenAwake_next h with ⟨-, h⟩ | ⟨-, rfl⟩
  · split at h
    · exact inBounds_of_returning h (txTryAcquire_inBounds (txRecycle_inBounds hs))
    · exact inBounds_of_returning h hs
  · exact hs

theorem execFlush_keeps_inBounds (h : execFlush s = .next t) (hs : s.inBounds) : t.inBounds := by
  rcases whenAwake_next h with ⟨-, h⟩ | ⟨-, rfl⟩
  · split at h
    · exact inBounds_of_returning h (flushBody_inBounds hs)
    · exact inBounds_of_returning h hs
  · exact hs

/-- TX_PUT moves one byte from the room to the fill (R278). -/
theorem execTxPut_keeps_inBounds {b : Byte} (h : execTxPut b s = .next t) (hs : s.inBounds) : t.inBounds := by
  rcases whenAwake_next h with ⟨-, h⟩ | ⟨-, rfl⟩
  · split at h
    · cases h
    · rename_i x hx
      split at h
      · cases h
      · rename_i hrem
        split at h
        · obtain rfl := Host.Outcome.next.inj h
          obtain ⟨hcounts, hrx, htx, harmed⟩ := hs
          refine ⟨hcounts, hrx, fun y hy => ?_, harmed⟩
          obtain rfl := Option.mem_some.mp hy
          have hfull := htx x hx
          dsimp only
          omega
        · cases h
  · exact hs

/-! ### The interrupt step and the resets -/

theorem handleTrn_keeps_inBounds (h : handleTrn s = .next t) (hdev : s.dev.state ≠ .detached) (hs : s.inBounds) :
    t.inBounds := by
  rcases handleTrn_next h with rfl | ⟨e, rest, -, h⟩
  · exact hs
  · have htaken : (s.setTrn rest).inBounds := hs
    rcases handleCompletion_next h with ⟨-, h | ⟨i, h⟩⟩ | ⟨-, h⟩ | ⟨-, h⟩
    · exact onEp0_keeps_inBounds h htaken
    · exact setupStep_keeps_inBounds h hdev htaken
    · obtain ⟨-, -, -, rfl⟩ := bulkOutComplete_next h
      exact hs
    · obtain ⟨-, -, -, rfl⟩ := bulkInComplete_next h
      exact hs

/-- Where the descriptors and the pipe are those of the bus-reset initialisation, every count is a capacity (R166). -/
theorem inBounds_of_usbResetInit (hbd : t.bd = s.usbResetInit.bd) (hcfg : t.cfg = s.cfg)
    (hrx : t.rx = s.usbResetInit.rx) (htx : t.tx = s.usbResetInit.tx) (harmed : t.pipeArmed = s.usbResetInit.pipeArmed) :
    t.inBounds := by
  have hdesc (d : DescId) : t.desc d = s.stallAll.desc d := congrArg (fun b => BdTable.get b d) hbd
  refine ⟨fun _ d _ => ?_, ?_, ?_, ?_⟩
  · rw [hdesc, State.desc_stallAll, hcfg]
    exact toNat_ofNat10_le _
  · rw [State.rxSliceInHalf, hrx]
    exact nofun
  · rw [State.txSliceFull, htx]
    exact nofun
  · rw [harmed, State.usbResetInit_pipeArmed]
    exact nofun

theorem execIrq_keeps_inBounds (h : execIrq s = .next t) (hs : s.inBounds) : t.inBounds := by
  rcases execIrq_next h with rfl | ⟨hdev, src, -, h⟩
  · exact hs
  · cases src with
    | trn => exact handleTrn_keeps_inBounds h hdev hs
    | reset =>
      obtain rfl := Host.Outcome.next.inj h
      exact inBounds_of_usbResetInit (s := s) rfl s.usbResetInit_cfg rfl rfl rfl
    | idle | error =>
      obtain rfl := Host.Outcome.next.inj h
      exact inBounds_of_sliceView (s := s) (.of_bd rfl rfl) rfl hs
    | activity =>
      change handleActivity s = .next t at h
      unfold handleActivity at h
      dsimp only at h
      split at h <;> obtain rfl := Host.Outcome.next.inj h <;>
        exact inBounds_of_sliceView (s := s) (.of_bd rfl rfl) rfl hs

theorem execAttach_keeps_inBounds (h : execAttach s = .next t) (hs : s.inBounds) : t.inBounds := by
  rcases whenAwake_next h with ⟨-, h⟩ | ⟨-, rfl⟩
  · split at h
    · obtain rfl := Host.Outcome.next.inj h
      exact inBounds_of_usbResetInit (s := s) rfl s.usbResetInit_cfg rfl rfl rfl
    · exact inBounds_of_returning h hs
  · exact hs

theorem execEvSe0Exit_keeps_inBounds (h : execEvSe0Exit s = .next t) (hs : s.inBounds) : t.inBounds := by
  refine inBounds_of_whenEnabled h hs fun hstate h => inBounds_of_returning h ?_
  refine inBounds_of_sliceView (s := s) (.of_bd rfl rfl) ?_ hs
  have hstate : s.dev.state = .attached := of_decide_eq_true hstate
  simp only [State.sliceView, State.engineOn, State.setDev_dev, hstate]
  rfl

theorem State.deviceReset_inBounds (s : State) : s.deviceReset.inBounds :=
  inBounds_of_block s.deviceReset_block (State.powerOn_inBounds _ _)

/-- Every operation of the port keeps counts and slices inside. -/
theorem exec_keeps_inBounds {i : Instr} (hi : i.ofPort) (h : exec i s = .next t) (hs : s.inBounds) : t.inBounds := by
  cases i, hi using Instr.ofPort_elim with
  | evSe0Exit => exact execEvSe0Exit_keeps_inBounds h hs
  | evBusReset | evIdle | evError classes =>
    refine inBounds_of_whenEnabled h hs fun _ h => inBounds_of_returning h (noteActivity_inBounds ?_)
    exact inBounds_of_sliceView (s := s) (.of_bd rfl rfl) rfl hs
  | evActivity =>
    refine inBounds_of_whenEnabled h hs fun _ h => inBounds_of_returning h ?_
    exact inBounds_of_sliceView (s := s) (.of_bd rfl rfl) rfl hs
  | evTrnSetup packet => exact execEvTrnSetup_keeps_inBounds h hs
  | evTrnOut ep half data => exact execEvTrnOut_keeps_inBounds h hs
  | evTrnIn ep half => exact execEvTrnIn_keeps_inBounds h hs
  | attach => exact execAttach_keeps_inBounds h hs
  | acqRx => exact execAcqRx_keeps_inBounds h hs
  | rxRead index =>
    rw [execRxRead_frame h]
    exact hs
  | rxTake count => exact execRxTake_keeps_inBounds h hs
  | acqTx => exact execAcqTx_keeps_inBounds h hs
  | txPut byte => exact execTxPut_keeps_inBounds h hs
  | flush => exact execFlush_keeps_inBounds h hs
  | isActive | csEnter =>
    rcases whenAwake_next h with ⟨-, h⟩ | ⟨-, rfl⟩
    · obtain rfl := Host.Outcome.next.inj h
      exact hs
    · exact hs
  | csExit => rcases execCsExit_next h with ⟨saved, rest, -, rfl⟩ | rfl <;> exact hs
  | sleep =>
    rcases whenAwake_next h with ⟨-, h⟩ | ⟨-, rfl⟩
    · obtain rfl := Host.Outcome.next.inj h
      split <;> exact hs
    · exact hs
  | resetExec =>
    rcases execResetExec_next h with ⟨-, rfl⟩ | ⟨r, rfl⟩
    · exact s.deviceReset_inBounds
    · exact hs
  | irq => exact execIrq_keeps_inBounds h hs
  | watchdog =>
    rcases execWatchdog_next h with ⟨-, rfl⟩ | ⟨r, rfl⟩
    · exact s.deviceReset_inBounds
    · exact hs

end

end Sys2Proof.Machine
end

section
/-! From a state with counts and slices in bounds no operation reaches past a buffer (20_memory.md R81, log 10). -/

namespace Sys2Proof.Machine

section
variable {s t : State} {x : Fault} {d : DescId} {k : Nat}

theorem whenEnabled_fault {e : Bool} {r : Result} (h : whenEnabled e s r = .fault x) : e = true ∧ r = .fault x := by
  cases e with
  | true => exact ⟨rfl, h⟩
  | false => cases h

theorem whenAwake_fault {r : Result} (h : whenAwake s r = .fault x) : r = .fault x := by
  unfold whenAwake at h
  split at h
  · cases h
  · exact h

theorem withinBuffer_of_fits {r : Result} (h : (s.desc d).count.toNat ≤ capacity s.cfg d) : withinBuffer s d r = r :=
  if_pos h

/-! ### The operations that name a byte -/

/-- An enabled IN transaction is on an attached device, whose counts fit (R162, R38). -/
theorem execEvTrnIn_ne_fault {ep : Endpoint} {half : Bit} (hs : s.inBounds) : execEvTrnIn ep half s ≠ .fault x := by
  intro h
  cases ep with
  | ep0 =>
    obtain ⟨he, h⟩ := whenEnabled_fault h
    simp only [Bool.and_eq_true] at he
    rw [withinBuffer_of_fits (inBounds_fits hs (transacts_of_completable he.1).attached _)] at h
    cases h
  | notif => cases h
  | bulk =>
    obtain ⟨he, h⟩ := whenEnabled_fault h
    simp only [Bool.and_eq_true] at he
    rw [withinBuffer_of_fits (inBounds_fits hs (transacts_of_completable he.1).attached _)] at h
    cases h

/-- An index within the slice is an index within the half (R273). -/
theorem execRxRead_inside {index : BitVec 6} (hs : s.inBounds) : execRxRead index s ≠ .fault (.noSuchByte d k) := by
  intro h
  have h := whenAwake_fault h
  split at h
  · cases h
  · rename_i y hy
    split at h
    · cases h
    · rename_i hindex
      split at h
      · cases h
      · rename_i hpast
        have hhalf := hs.2.1 y hy
        omega

/-- A slice with room left is not full (R278). -/
theorem execTxPut_inside {b : Byte} (hs : s.inBounds) : execTxPut b s ≠ .fault (.noSuchByte d k) := by
  intro h
  have h := whenAwake_fault h
  split at h
  · cases h
  · rename_i y hy
    split at h
    · cases h
    · rename_i hroom
      split at h
      · cases h
      · rename_i hpast
        have hfull := hs.2.2.1 y hy
        omega

theorem execRxTake_inside {n : Byte} : execRxTake n s ≠ .fault (.noSuchByte d k) := by
  intro h
  have h := whenAwake_fault h
  split at h
  · cases h
  · split at h <;> cases h

/-! ### The handlers, which name none -/

theorem setupStage_inside : setupStage s ≠ .fault (.noSuchByte d k) := by
  intro h
  unfold setupStage at h
  split at h
  · cases runRequest_fault h
  · cases h

theorem ep0OutComplete_ne_fault : ep0OutComplete s ≠ .fault x := by
  unfold ep0OutComplete
  dsimp only
  split
  · split <;> exact next_ne_fault
  · exact next_ne_fault

theorem ep0InComplete_inside : ep0InComplete s ≠ .fault (.noSuchByte d k) := by
  intro h
  unfold ep0InComplete at h
  split at h
  · split at h <;> cases h
  · split at h <;> cases h

theorem bulkOutComplete_inside {r : Bit} : bulkOutComplete r s ≠ .fault (.noSuchByte d k) := by
  intro h
  unfold bulkOutComplete at h
  split at h
  · cases h
  · split at h
    · cases h
    · split at h <;> cases h

theorem bulkInComplete_inside {r : Bit} : bulkInComplete r s ≠ .fault (.noSuchByte d k) := by
  intro h
  unfold bulkInComplete at h
  split at h
  · cases h
  · split at h
    · cases h
    · split at h <;> cases h

theorem handleCompletion_inside {e : Completion} : handleCompletion e s ≠ .fault (.noSuchByte d k) := by
  unfold handleCompletion
  split
  · exact setupStage_inside
  · exact ep0OutComplete_ne_fault
  · exact ep0InComplete_inside
  · exact bulkOutComplete_inside
  · exact bulkInComplete_inside
  all_goals exact nofun

theorem execIrq_inside : execIrq s ≠ .fault (.noSuchByte d k) := by
  intro h
  unfold execIrq takeInterrupt at h
  split at h
  · split at h
    · rename_i src _
      cases src with
      | trn =>
        change handleTrn s = _ at h
        unfold handleTrn at h
        split at h
        · cases h
        · exact handleCompletion_inside h
      | _ => cases h
    · cases h
  · cases h

/-- No operation of the port reaches past a buffer from a state in bounds. -/
theorem exec_inside {i : Instr} (hi : i.ofPort) (hs : s.inBounds) : exec i s ≠ .fault (.noSuchByte d k) := by
  intro h
  cases i, hi using Instr.ofPort_elim with
  | evTrnIn ep half => exact execEvTrnIn_ne_fault hs h
  | rxRead index => exact execRxRead_inside hs h
  | rxTake count => exact execRxTake_inside h
  | txPut byte => exact execTxPut_inside hs h
  | irq => exact execIrq_inside h
  | csExit =>
    have h := whenAwake_fault h
    split at h <;> cases h
  | evTrnOut ep half data =>
    cases ep with
    | ep0 | bulk => cases (whenEnabled_fault h).2
    | notif => cases h
  | evSe0Exit | evBusReset | evIdle | evActivity | evError classes | evTrnSetup packet | watchdog =>
    cases (whenEnabled_fault h).2
  | attach | acqRx | acqTx | flush =>
    have h := whenAwake_fault h
    split at h <;> cases h
  | isActive | csEnter | sleep | resetExec => cases whenAwake_fault h

end

/-- Settles O48: the bounds are an invariant of the block, and within them every byte that an operation names exists. -/
theorem everyStepStaysInsideTheBuffers : Obligations.EveryStepStaysInsideTheBuffers := by
  refine ⟨fun s t hs h => step_keeps_block inBounds_of_block exec_keeps_inBounds h hs, fun s d k hs h => ?_⟩
  obtain ⟨i, u, hi, hu, h⟩ := step_fault h
  exact exec_inside hi (inBounds_of_block (block_of_lasting hu) hs) h

end Sys2Proof.Machine
end

section
/-! Memory stays canonical and the records keep their sizes (10_state.md R54, R58, R59; log 9). -/

namespace Sys2Proof.Machine

/-- Memory is canonical and the records are sized. -/
def State.memoryLegal (s : State) : Prop := s.buf.wf = true ∧ s.recordsSized

/-- What `memoryLegal` looks at. -/
def State.memoryView (s : State) : Memory × Nat × Nat × Nat × Nat :=
  (s.buf, s.lc.length, s.sess.hdr.length, s.flashseq.recs.length, s.flashseq.count)

section
variable {s t u : State}

theorem memoryLegal_of_view (h : t.memoryView = s.memoryView) (hs : s.memoryLegal) : t.memoryLegal := by
  simp only [State.memoryView, Prod.mk.injEq] at h
  obtain ⟨hbuf, hlc, hhdr, hrecs, hused⟩ := h
  unfold State.memoryLegal State.recordsSized
  rw [hbuf, hlc, hhdr, hrecs, hused]
  exact hs

theorem memoryLegal_of_lasting (h : t.lasting = s.lasting) (hs : s.memoryLegal) : t.memoryLegal := by
  refine memoryLegal_of_view ?_ hs
  exact congrArg (fun l : Lasting => (l.block.buf, l.block.lc.length, l.hdrLength, l.recsLength, l.recsUsed)) h

/-- Bytes written inside the buffer of a descriptor (R81). -/
theorem writeBufs_memoryLegal (hs : s.memoryLegal) {d : DescId} (hd : d ≠ .notifIn) {bs : List Byte}
    (hlen : bs.length ≤ 64) : (s.writeBufs d 0 bs).memoryLegal := by
  refine ⟨State.writeBufs_wf bs s d 0 hd (by omega) hs.1, ?_⟩
  unfold State.recordsSized
  rw [State.writeBufs_lc, State.writeBufs_sess, State.writeBufs_flashseq]
  exact hs.2

/-! ### Endpoint 0 -/

theorem onEp0_keeps_memoryLegal (h : OnEp0 s t) (hs : s.memoryLegal) : t.memoryLegal := by
  induction h with
  | refl => exact hs
  | bytes _ bs hbs ih => exact writeBufs_memoryLegal ih (d := .ep0In) nofun hbs
  | @lc u _ l hl ih => exact memoryLegal_of_view (s := u) (by simp [State.memoryView, hl]) ih
  | ctl _ _ ih | desc _ _ _ _ _ ih | dev _ _ _ _ ih | reason _ _ ih | ret _ _ ih => exact ih

theorem setupStep_keeps_memoryLegal {i : Instr} (h : SetupStep s i t) (hs : s.memoryLegal) : t.memoryLegal := by
  rcases h.cases with h | ⟨-, u, hu, h⟩
  · exact onEp0_keeps_memoryLegal h hs
  · have hus := onEp0_keeps_memoryLegal hu hs
    rcases h with h | h
    · exact onEp0_keeps_memoryLegal h (memoryLegal_of_view (s := u) (by simp [State.memoryView]) hus)
    · exact onEp0_keeps_memoryLegal h (memoryLegal_of_view (s := u) (by simp [State.memoryView]) hus)

/-! ### The engine's acts -/

theorem memoryLegal_of_whenEnabled {e : Bool} {r : Result} (h : whenEnabled e s r = .next t) (hs : s.memoryLegal)
    (hr : e = true → r = .next t → t.memoryLegal) : t.memoryLegal := by
  rcases whenEnabled_next h with ⟨he, h⟩ | ⟨-, rfl⟩
  · exact hr he h
  · exact hs

theorem memoryLegal_of_returning {r : Ret} (h : returning r u = .next t) (hu : u.memoryLegal) : t.memoryLegal := by
  obtain rfl := Host.Outcome.next.inj h
  exact hu

theorem noteActivity_memoryLegal (hs : s.memoryLegal) : s.noteActivity.memoryLegal :=
  memoryLegal_of_view (s := s) (by simp [State.memoryView]) hs

theorem receive_memoryLegal (hs : s.memoryLegal) {d : DescId} (hd : d ≠ .notifIn) {bs : List Byte}
    (hlen : bs.length ≤ 64) (r : Completion) : (s.receive d bs r).memoryLegal :=
  memoryLegal_of_view (s := s.writeBufs d 0 bs) rfl (writeBufs_memoryLegal hs hd hlen)

theorem execEvTrnSetup_keeps_memoryLegal {packet : List Byte} (h : execEvTrnSetup packet s = .next t)
    (hs : s.memoryLegal) : t.memoryLegal := by
  refine memoryLegal_of_whenEnabled h hs fun he h =>
    memoryLegal_of_returning h (noteActivity_memoryLegal (receive_memoryLegal hs (d := .ep0Out) nofun ?_ _))
  simp only [Bool.and_eq_true, beq_iff_eq] at he
  omega

theorem execEvTrnOut_keeps_memoryLegal {ep : Endpoint} {half : Bit} {data : List Byte}
    (h : execEvTrnOut ep half data s = .next t) (hs : s.memoryLegal) : t.memoryLegal := by
  cases ep with
  | ep0 =>
    refine memoryLegal_of_whenEnabled h hs fun he h =>
      memoryLegal_of_returning h (noteActivity_memoryLegal (receive_memoryLegal hs (d := .ep0Out) nofun ?_ _))
    simp only [Bool.and_eq_true, decide_eq_true_eq] at he
    exact he.1.2.trans (ep0Size_bytes_le _)
  | notif => exact memoryLegal_of_whenEnabled h hs nofun
  | bulk =>
    refine memoryLegal_of_whenEnabled h hs fun he h => memoryLegal_of_returning h (noteActivity_memoryLegal ?_)
    simp only [Bool.and_eq_true, decide_eq_true_eq] at he
    exact receive_memoryLegal hs (d := .bulkOut half) nofun he.2 { kind := .out, ep := .bulk, half := half }

theorem execEvTrnIn_keeps_memoryLegal {ep : Endpoint} {half : Bit} (h : execEvTrnIn ep half s = .next t)
    (hs : s.memoryLegal) : t.memoryLegal := by
  cases ep with
  | notif => exact memoryLegal_of_whenEnabled h hs nofun
  | ep0 | bulk =>
    refine memoryLegal_of_whenEnabled h hs fun _ h =>
      memoryLegal_of_returning (withinBuffer_next h) (noteActivity_memoryLegal ?_)
    exact hs

/-! ### The firmware operations and the interrupt step -/

/-- TX_PUT writes one byte of a half (R278). -/
theorem execTxPut_keeps_memoryLegal {b : Byte} (h : execTxPut b s = .next t) (hs : s.memoryLegal) : t.memoryLegal := by
  rcases whenAwake_next h with ⟨-, h⟩ | ⟨-, rfl⟩
  · split at h
    · cases h
    · rename_i x _
      split at h
      · cases h
      · split at h
        · rename_i hfill
          obtain rfl := Host.Outcome.next.inj h
          exact ⟨Memory.wf_insert b hs.1 (DescId.base_add_lt (d := .bulkIn x.half) nofun hfill), hs.2⟩
        · cases h
  · exact hs

/-- The bus-reset initialisation draws 7 bytes and clears the 16 of the header (R166, R75). -/
theorem usbResetInit_memoryLegal (hs : s.memoryLegal) : s.usbResetInit.memoryLegal := by
  obtain ⟨hbuf, -, -, hrecs⟩ := hs
  refine ⟨s.usbResetInit_buf ▸ hbuf, ?_, ?_, ?_⟩
  · rw [State.usbResetInit_eq]
    exact s.freeBytes_length 7
  · rw [State.usbResetInit_sess]
    exact List.length_replicate
  · rw [State.usbResetInit_flashseq]
    exact hrecs

theorem handleTrn_keeps_memoryLegal (h : handleTrn s = .next t) (hs : s.memoryLegal) : t.memoryLegal := by
  rcases handleTrn_next h with rfl | ⟨e, rest, -, h⟩
  · exact hs
  · have htaken : (s.setTrn rest).memoryLegal := hs
    rcases handleCompletion_next h with ⟨-, h | ⟨i, h⟩⟩ | ⟨-, h⟩ | ⟨-, h⟩
    · exact onEp0_keeps_memoryLegal h htaken
    · exact setupStep_keeps_memoryLegal h htaken
    · obtain ⟨-, -, -, rfl⟩ := bulkOutComplete_next h
      exact hs
    · obtain ⟨-, -, -, rfl⟩ := bulkInComplete_next h
      exact hs

theorem execIrq_keeps_memoryLegal (h : execIrq s = .next t) (hs : s.memoryLegal) : t.memoryLegal := by
  rcases execIrq_next h with rfl | ⟨-, src, -, h⟩
  · exact hs
  · cases src with
    | trn => exact handleTrn_keeps_memoryLegal h hs
    | reset =>
      obtain rfl := Host.Outcome.next.inj h
      exact memoryLegal_of_view (s := s.usbResetInit) rfl (usbResetInit_memoryLegal hs)
    | idle | error =>
      obtain rfl := Host.Outcome.next.inj h
      exact hs
    | activity =>
      change handleActivity s = .next t at h
      unfold handleActivity at h
      dsimp only at h
      split at h <;> obtain rfl := Host.Outcome.next.inj h <;> exact hs

theorem execAttach_keeps_memoryLegal (h : execAttach s = .next t) (hs : s.memoryLegal) : t.memoryLegal := by
  rcases whenAwake_next h with ⟨-, h⟩ | ⟨-, rfl⟩
  · split at h
    · obtain rfl := Host.Outcome.next.inj h
      exact memoryLegal_of_view (s := s.usbResetInit) rfl (usbResetInit_memoryLegal hs)
    · exact memoryLegal_of_returning h hs
  · exact hs

theorem State.deviceReset_memoryLegal (s : State) : s.deviceReset.memoryLegal :=
  memoryLegal_of_view (s := State.powerOn s.cfg s.draws) rfl
    ⟨State.powerOn_buf_wf _ _, State.powerOn_recordsSized _ _⟩

/-- Every operation of the port keeps memory canonical and the records sized. -/
theorem exec_keeps_memoryLegal {i : Instr} (hi : i.ofPort) (h : exec i s = .next t) (hs : s.memoryLegal) :
    t.memoryLegal := by
  cases i, hi using Instr.ofPort_elim with
  | evSe0Exit | evActivity =>
    exact memoryLegal_of_whenEnabled h hs fun _ h => memoryLegal_of_returning h hs
  | evBusReset | evIdle | evError classes =>
    refine memoryLegal_of_whenEnabled h hs fun _ h => memoryLegal_of_returning h (noteActivity_memoryLegal ?_)
    exact hs
  | evTrnSetup packet => exact execEvTrnSetup_keeps_memoryLegal h hs
  | evTrnOut ep half data => exact execEvTrnOut_keeps_memoryLegal h hs
  | evTrnIn ep half => exact execEvTrnIn_keeps_memoryLegal h hs
  | attach => exact execAttach_keeps_memoryLegal h hs
  | acqRx =>
    rw [execAcqRx_frame h]
    exact hs
  | rxRead index =>
    rw [execRxRead_frame h]
    exact hs
  | rxTake count =>
    rw [execRxTake_frame h]
    exact hs
  | acqTx =>
    rw [execAcqTx_frame h]
    exact hs
  | txPut byte => exact execTxPut_keeps_memoryLegal h hs
  | flush =>
    rw [execFlush_frame h]
    exact hs
  | isActive | csEnter =>
    rcases whenAwake_next h with ⟨-, h⟩ | ⟨-, rfl⟩
    · exact memoryLegal_of_returning h hs
    · exact hs
  | csExit => rcases execCsExit_next h with ⟨saved, rest, -, rfl⟩ | rfl <;> exact hs
  | sleep =>
    rcases whenAwake_next h with ⟨-, h⟩ | ⟨-, rfl⟩
    · refine memoryLegal_of_returning h ?_
      split <;> exact hs
    · exact hs
  | resetExec =>
    rcases execResetExec_next h with ⟨-, rfl⟩ | ⟨r, rfl⟩
    · exact s.deviceReset_memoryLegal
    · exact hs
  | irq => exact execIrq_keeps_memoryLegal h hs
  | watchdog =>
    rcases execWatchdog_next h with ⟨-, rfl⟩ | ⟨r, rfl⟩
    · exact s.deviceReset_memoryLegal
    · exact hs

/-! ### Commands -/

/-- The header of a command lies over the first of the 16 header bytes (R58, R128). -/
theorem enterExec_hdr_length (c : Byte) {header : List Byte} (hlen : header.length ≤ s.sess.hdr.length) :
    (s.enterExec c header).sess.hdr.length = s.sess.hdr.length := by
  show (header ++ s.sess.hdr.drop header.length).length = s.sess.hdr.length
  rw [List.length_append, List.length_drop]
  omega

theorem command_keeps_memoryLegal {i : Instr} (hi : i.isCommand = true) (hwf : i.wellFormed = true)
    (h : exec i s = .next t) (hs : s.memoryLegal) : t.memoryLegal := by
  have hblock := block_of_command hi h
  have hbuf : t.buf = s.buf := congrArg Block.buf hblock
  have hlc : t.lc = s.lc := congrArg Block.lc hblock
  obtain ⟨hwfs, hlcs, hhdrs, hrecss, huseds⟩ := hs
  rcases command_next hi h with ⟨r, rfl⟩ | ⟨-, c, header, u, hheader, hwork, rfl⟩
  · exact ⟨hwfs, hlcs, hhdrs, hrecss, huseds⟩
  · have hhdr : u.sess.hdr.length = 16 :=
      (hwork.hdrLength.trans (enterExec_hdr_length c (hhdrs.symm ▸ hheader hwf))).trans hhdrs
    have hused : u.flashseq.count ≤ 16 := by
      rcases hwork.recsUsed with hsame | hfits
      · exact hsame.trans_le huseds
      · exact hfits
    exact ⟨hbuf ▸ hwfs, hlc ▸ hlcs, hhdr, hwork.recsLength.trans hrecss, hused⟩

end

/-- Settles O47: beside the operations of the port, only the commands write the records, and within their sizes. -/
theorem everyStepKeepsMemoryCanonical : Obligations.EveryStepKeepsMemoryCanonical :=
  fun _ _ hwf hsized h =>
    step_keeps memoryLegal_of_lasting exec_keeps_memoryLegal command_keeps_memoryLegal h ⟨hwf, hsized⟩

end Sys2Proof.Machine
end

section
/-! Who can lock and unlock the session (43_command_protocol.md R325, R331, R347), and who can change the applied address, the
interrupt enable and the persisted byte (10_state.md R29, R33, R55). -/

namespace Sys2Proof.Machine

/-! ### The guarded fields -/

/-- The lock, the applied address, the interrupt enable and the persisted byte. -/
def State.guarded (s : State) : Bool × BitVec 7 × Bool × Byte :=
  (s.sess.unlocked, s.dev.address, s.irq.enable, s.resetReason)

/-- RESET_EXEC with a reset staged, or WATCHDOG during a flash poll, has reset the device (R298, R347). -/
def ResetsDevice (i : Instr) (s t : State) : Prop :=
  ((i = .resetExec ∧ s.dev.pendingReset = true) ∨ (i = .watchdog ∧ s.sess.poll ≠ none)) ∧
    t = s.deviceReset.setRet .none

/-- What an operation may change of the guarded fields. -/
structure GuardedMove (i : Instr) (s t : State) : Prop where
  unlocked : t.sess.unlocked = s.sess.unlocked ∨
    (t.sess.unlocked = true ∧ s.sess.phase ≠ .exec ∧ ∃ mods, i = .unlock mods s.cfg.unlockKey) ∨ ResetsDevice i s t
  address : t.dev.address = s.dev.address ∨
    (i ∈ [Instr.attach, .resetExec, .watchdog, .irq] ∧
      (t.dev.address = 0#7 ∨ (s.ctl.pendingAddress = some t.dev.address ∧ s.ctl.dataStage = false)))
  enable : t.irq.enable = s.irq.enable ∨ i ∈ [Instr.attach, .csEnter, .csExit, .resetExec, .watchdog]
  resetReason : t.resetReason = s.resetReason ∨
    (t.dev.pendingReset = true ∧ (i = .irq ∨ (∃ q, i = .vendorReset q) ∨ ∃ mods magic, i = .reset mods magic))

section
variable {i : Instr} {s t u : State}

theorem GuardedMove.of_guarded (h : t.guarded = s.guarded) : GuardedMove i s t := by
  simp only [State.guarded, Prod.mk.injEq] at h
  obtain ⟨hunlocked, haddress, henable, hreason⟩ := h
  exact ⟨.inl hunlocked, .inl haddress, .inl henable, .inl hreason⟩

theorem GuardedMove.of_resetsDevice (h : ResetsDevice i s t) : GuardedMove i s t := by
  obtain ⟨hi, rfl⟩ := h
  have hmem : i = .resetExec ∨ i = .watchdog := hi.imp And.left And.left
  refine ⟨.inr (.inr ⟨hi, rfl⟩), .inr ⟨?_, .inl rfl⟩, .inr ?_, .inl rfl⟩ <;>
    rcases hmem with rfl | rfl <;> simp

theorem guarded_of_whenEnabled {e : Bool} {r : Result} (h : whenEnabled e s r = .next t)
    (hr : e = true → r = .next t → t.guarded = s.guarded) : t.guarded = s.guarded := by
  rcases whenEnabled_next h with ⟨he, h⟩ | ⟨-, rfl⟩
  · exact hr he h
  · rfl

theorem guarded_of_returning {r : Ret} (h : returning r u = .next t) (hu : u.guarded = s.guarded) :
    t.guarded = s.guarded := by
  obtain rfl := Host.Outcome.next.inj h
  exact hu

theorem guarded_of_frame {frame : State} (h : t = frame) (hframe : frame.guarded = s.guarded) : t.guarded = s.guarded :=
  h ▸ hframe

/-! ### The engine's acts -/

@[simp] theorem State.noteActivity_guarded (s : State) : s.noteActivity.guarded = s.guarded := by
  simp [State.guarded, State.noteActivity_irq]

@[simp] theorem State.receive_guarded (s : State) (d : DescId) (bs : List Byte) (r : Completion) :
    (s.receive d bs r).guarded = s.guarded := by
  simp [State.guarded, State.receive, State.complete]

theorem guarded_of_evTrnOut {ep : Endpoint} {half : Bit} {data : List Byte} (h : execEvTrnOut ep half data s = .next t) :
    t.guarded = s.guarded := by
  cases ep with
  | ep0 => exact guarded_of_whenEnabled h fun _ h => guarded_of_returning h (by simp)
  | notif => exact guarded_of_whenEnabled h nofun
  | bulk =>
    refine guarded_of_whenEnabled h fun _ h => guarded_of_returning h ((State.noteActivity_guarded _).trans ?_)
    exact s.receive_guarded (.bulkOut half) data { kind := .out, ep := .bulk, half := half }

theorem guarded_of_evTrnIn {ep : Endpoint} {half : Bit} (h : execEvTrnIn ep half s = .next t) :
    t.guarded = s.guarded := by
  cases ep with
  | notif => exact guarded_of_whenEnabled h nofun
  | ep0 | bulk =>
    exact guarded_of_whenEnabled h fun _ h =>
      guarded_of_returning (withinBuffer_next h) (State.noteActivity_guarded _)

/-! ### Control requests (41_control_transfer.md R201-R221) -/

theorem State.startStage_guarded (s : State) (a : Answer) (w : Word) :
    (s.startStage a w).guarded = s.guarded ∧ (s.startStage a w).dev = s.dev := by
  cases a with
  | stall | noData => exact ⟨rfl, rfl⟩
  | dataIn kind src => simp [State.startStage, State.guarded]
  | dataOut dest => by_cases hw : w = 0#16 <;> simp [State.startStage, State.guarded, hw]

/-- Of the requests only the vendor RESET writes a guarded field, the persisted byte, and stages a reset with it (R219). -/
theorem SetupWork.guarded (h : SetupWork s i u) :
    u.guarded = s.guarded ∨
    (u.guarded = (s.sess.unlocked, s.dev.address, s.irq.enable, u.resetReason) ∧ u.dev.pendingReset = true ∧
      ∃ q, i = .vendorReset q) := by
  cases h with
  | nothing | address | lineState => exact .inl rfl
  | stageReset q => exact .inr ⟨rfl, rfl, q, rfl⟩
  | configure => exact .inl (by simp [State.guarded])
  | deconfigure => exact .inl (by simp [State.guarded])

theorem SetupStep.guarded (h : SetupStep s i t) :
    t.guarded = s.guarded ∨
    (t.guarded = (s.sess.unlocked, s.dev.address, s.irq.enable, t.resetReason) ∧ t.dev.pendingReset = true ∧
      ∃ q, i = .vendorReset q) := by
  obtain ⟨u, a, w, hwork, rfl⟩ := h
  obtain ⟨hguarded, hdev⟩ := u.startStage_guarded a w
  have hreason : (u.startStage a w).resetReason = u.resetReason := congrArg (fun v => v.2.2.2) hguarded
  rcases hwork.guarded with h | ⟨h, hstaged, hi⟩
  · exact .inl (hguarded.trans h)
  · refine .inr ⟨(hguarded.trans h).trans ?_, ?_, hi⟩
    · rw [← hreason]
      rfl
    · exact (congrArg Dev.pendingReset hdev).trans hstaged

theorem GuardedMove.of_setupStep {j : Instr} (h : SetupStep s j t)
    (hi : (∃ q, j = .vendorReset q) → i = .irq ∨ ∃ q, i = .vendorReset q) : GuardedMove i s t := by
  rcases h.guarded with h | ⟨h, hstaged, hj⟩
  · exact .of_guarded h
  · simp only [State.guarded, Prod.mk.injEq] at h
    obtain ⟨hunlocked, haddress, henable, -⟩ := h
    exact ⟨.inl hunlocked, .inl haddress, .inl henable, .inr ⟨hstaged, (hi hj).imp_right .inl⟩⟩

/-! ### The interrupt step -/

theorem guarded_of_ep0OutComplete (h : ep0OutComplete s = .next t) : t.guarded = s.guarded := by
  unfold ep0OutComplete at h
  dsimp only at h
  split at h
  · split at h <;> obtain rfl := Host.Outcome.next.inj h <;> simp [State.guarded]
  · obtain rfl := Host.Outcome.next.inj h
    rfl

/-- The status IN applies the pending address; an IN data stage does not (R225, R227). -/
theorem ep0InComplete_guarded (h : ep0InComplete s = .next t) :
    t.guarded = s.guarded ∨
    (t.guarded = (s.sess.unlocked, t.dev.address, s.irq.enable, s.resetReason) ∧
      s.ctl.pendingAddress = some t.dev.address ∧ s.ctl.dataStage = false) := by
  rcases ep0InComplete_next h with rfl | rfl | ⟨hstage, rfl⟩
  · exact .inl rfl
  · exact .inl (by simp [State.guarded])
  · unfold State.applyAddress
    split
    · rename_i a ha
      exact .inr ⟨rfl, ha, hstage⟩
    · exact .inl rfl

theorem handleCompletion_guarded {e : Completion} (h : handleCompletion e s = .next t) : GuardedMove .irq s t := by
  unfold handleCompletion at h
  split at h
  · obtain ⟨j, h⟩ := setupStage_next h
    exact .of_setupStep h fun _ => .inl rfl
  · exact .of_guarded (guarded_of_ep0OutComplete h)
  · rcases ep0InComplete_guarded h with h | ⟨h, hpending⟩
    · exact .of_guarded h
    · simp only [State.guarded, Prod.mk.injEq] at h
      obtain ⟨hunlocked, -, henable, hreason⟩ := h
      exact ⟨.inl hunlocked, .inr ⟨by simp, .inr hpending⟩, .inl henable, .inl hreason⟩
  · obtain ⟨-, -, -, rfl⟩ := bulkOutComplete_next h
    exact .of_guarded rfl
  · obtain ⟨-, -, -, rfl⟩ := bulkInComplete_next h
    exact .of_guarded rfl
  all_goals cases h

/-- The bus-reset initialisation clears the address and keeps the other guarded fields (R166, R75). -/
theorem State.usbResetInit_guarded (s : State) :
    s.usbResetInit.guarded = (s.sess.unlocked, 0#7, s.irq.enable, s.resetReason) := by
  rw [State.usbResetInit_eq]
  rfl

theorem handleReset_guarded (h : handleReset s = .next t) : GuardedMove .irq s t := by
  obtain rfl := Host.Outcome.next.inj h
  have hguarded := s.usbResetInit_guarded
  simp only [State.guarded, Prod.mk.injEq] at hguarded
  obtain ⟨hunlocked, haddress, henable, hreason⟩ := hguarded
  exact ⟨.inl hunlocked, .inr ⟨by simp, .inl haddress⟩, .inl henable, .inl hreason⟩

theorem execIrq_guarded (h : execIrq s = .next t) : GuardedMove .irq s t := by
  rcases execIrq_next h with rfl | ⟨-, src, -, h⟩
  · exact .of_guarded rfl
  · cases src with
    | trn =>
      rcases handleTrn_next h with rfl | ⟨e, rest, -, h⟩
      · exact .of_guarded rfl
      · obtain ⟨hunlocked, haddress, henable, hreason⟩ := handleCompletion_guarded h
        exact ⟨hunlocked, haddress, henable, hreason⟩
    | reset => exact handleReset_guarded h
    | idle | error =>
      obtain rfl := Host.Outcome.next.inj h
      exact .of_guarded rfl
    | activity =>
      change handleActivity s = .next t at h
      unfold handleActivity at h
      dsimp only at h
      split at h <;> obtain rfl := Host.Outcome.next.inj h <;> exact .of_guarded rfl

/-! ### Every operation -/

theorem execAttach_guarded (h : execAttach s = .next t) : GuardedMove .attach s t := by
  rcases whenAwake_next h with ⟨-, h⟩ | ⟨-, rfl⟩
  · split at h
    · obtain rfl := Host.Outcome.next.inj h
      have hguarded := s.usbResetInit_guarded
      simp only [State.guarded, Prod.mk.injEq] at hguarded
      obtain ⟨hunlocked, haddress, -, hreason⟩ := hguarded
      exact ⟨.inl hunlocked, .inr ⟨by simp, .inl haddress⟩, .inr (by simp), .inl hreason⟩
    · exact .of_guarded (guarded_of_returning h rfl)
  · exact .of_guarded rfl

theorem port_guardedMove (hi : i.ofPort) (h : exec i s = .next t) : GuardedMove i s t := by
  cases i, hi using Instr.ofPort_elim with
  | evSe0Exit | evActivity =>
    exact .of_guarded (guarded_of_whenEnabled h fun _ h => guarded_of_returning h rfl)
  | evBusReset | evIdle | evError classes =>
    exact .of_guarded (guarded_of_whenEnabled h fun _ h => guarded_of_returning h (State.noteActivity_guarded _))
  | evTrnSetup packet =>
    exact .of_guarded (guarded_of_whenEnabled h fun _ h => guarded_of_returning h (by simp))
  | evTrnOut ep half data => exact .of_guarded (guarded_of_evTrnOut h)
  | evTrnIn ep half => exact .of_guarded (guarded_of_evTrnIn h)
  | attach => exact execAttach_guarded h
  | acqRx => exact .of_guarded (guarded_of_frame (execAcqRx_frame h) rfl)
  | rxRead index => exact .of_guarded (guarded_of_frame (execRxRead_frame h) rfl)
  | rxTake count => exact .of_guarded (guarded_of_frame (execRxTake_frame h) rfl)
  | acqTx => exact .of_guarded (guarded_of_frame (execAcqTx_frame h) rfl)
  | txPut byte => exact .of_guarded (guarded_of_frame (execTxPut_frame h) rfl)
  | flush => exact .of_guarded (guarded_of_frame (execFlush_frame h) rfl)
  | isActive =>
    rcases whenAwake_next h with ⟨-, h⟩ | ⟨-, rfl⟩
    · exact .of_guarded (guarded_of_returning h rfl)
    · exact .of_guarded rfl
  | csEnter =>
    rcases whenAwake_next h with ⟨-, h⟩ | ⟨-, rfl⟩
    · obtain rfl := Host.Outcome.next.inj h
      exact ⟨.inl rfl, .inl rfl, .inr (by simp), .inl rfl⟩
    · exact .of_guarded rfl
  | csExit =>
    rcases execCsExit_next h with ⟨saved, rest, -, rfl⟩ | rfl
    · exact ⟨.inl rfl, .inl rfl, .inr (by simp), .inl rfl⟩
    · exact .of_guarded rfl
  | sleep =>
    rcases whenAwake_next h with ⟨-, h⟩ | ⟨-, rfl⟩
    · refine .of_guarded (guarded_of_returning h ?_)
      split <;> rfl
    · exact .of_guarded rfl
  | resetExec =>
    rcases execResetExec_next h with ⟨hstaged, ht⟩ | ⟨r, rfl⟩
    · exact .of_resetsDevice ⟨.inl ⟨rfl, hstaged⟩, ht⟩
    · exact .of_guarded rfl
  | irq => exact execIrq_guarded h
  | watchdog =>
    rcases execWatchdog_next h with ⟨hpoll, ht⟩ | ⟨r, rfl⟩
    · exact .of_resetsDevice ⟨.inr ⟨rfl, hpoll⟩, ht⟩
    · exact .of_guarded rfl

theorem command_guardedMove (hi : i.isCommand = true) (h : exec i s = .next t) : GuardedMove i s t := by
  have hblock := block_of_command hi h
  have haddress : t.dev.address = s.dev.address := congrArg Block.address hblock
  have henable : t.irq.enable = s.irq.enable := congrArg (fun b => b.irq.enable) hblock
  rcases command_next hi h with ⟨r, rfl⟩ | ⟨hphase, c, header, u, -, hwork, rfl⟩
  · exact .of_guarded rfl
  · refine ⟨?_, .inl haddress, .inl henable, ?_⟩
    · exact hwork.unlocked.imp id fun ⟨htrue, hkey⟩ => .inl ⟨htrue, hphase, hkey⟩
    · exact hwork.resetReason.imp id fun ⟨hstaged, hreset⟩ => ⟨hstaged, .inr (.inr hreset)⟩

/-- What any operation may change of the guarded fields. -/
theorem exec_guardedMove (h : exec i s = .next t) : GuardedMove i s t := by
  by_cases hreq : i.isRequest = true
  · rw [exec_request hreq] at h
    exact .of_setupStep (runRequest_next h) .inr
  · by_cases hcmd : i.isCommand = true
    · exact command_guardedMove hcmd h
    · exact port_guardedMove ⟨Bool.eq_false_iff.mpr hreq, Bool.eq_false_iff.mpr hcmd⟩ h

end

/-- Settles O56. -/
theorem writersOfAddressEnableAndReason : Obligations.WritersOfAddressEnableAndReason := by
  intro i s t h
  obtain ⟨-, haddress, henable, hreason⟩ := exec_guardedMove h
  exact ⟨haddress.resolve_left, henable.resolve_left, hreason.resolve_left⟩

end Sys2Proof.Machine
end

section
/-! The key and the lock through every step (43_command_protocol.md R322, R325, R331, R347). -/

namespace Sys2Proof.Machine

theorem decodeHeader_unlock {id : BitVec 5} {m mods : BitVec 3} {header key : List Byte}
    (h : decodeHeader id m header = .ok (.unlock mods key)) : header = key := by
  unfold decodeHeader at h
  generalize id.toNat = n at h
  split at h
  case h_2 =>
    obtain ⟨-, heq⟩ := header16_ok h
    injection heq with _ hkey
    exact hkey.symm
  case h_1 =>
    obtain ⟨-, heq⟩ := header16_ok h
    cases heq
  case h_3 | h_10 | h_13 =>
    obtain ⟨_, -, heq⟩ := header1_ok h
    cases heq
  case h_4 | h_12 | h_14 =>
    obtain ⟨-, heq⟩ := header0_ok h
    cases heq
  case h_5 =>
    obtain ⟨_, _, -, heq⟩ := headerAddr_ok h
    cases heq
  case h_6 | h_8 | h_11 =>
    obtain ⟨_, _, _, _, -, heq⟩ := headerAddrLen_ok h
    cases heq
  case h_7 | h_9 =>
    obtain ⟨_, _, _, -, heq⟩ := headerAddrByte_ok h
    cases heq
  case h_15 => cases h

/-- UNLOCK needs its 16 header bytes, so no id byte alone is one (R128). -/
theorem decodeCommand_single_ne_unlock {b : Byte} {mods : BitVec 3} {key : List Byte} :
    decodeCommand [b] ≠ .ok (.unlock mods key) := by
  intro h
  have hlen : key.length = 16 := eq_of_beq (decodeCommand_isCommand h).2
  obtain ⟨c, header, hbytes, h⟩ := decodeCommand_ok h
  obtain rfl := decodeHeader_unlock h
  cases hbytes
  cases hlen

section
variable {s t u : State}

/-- A state that the operation `i` unlocks or locks, from what the operation may change. -/
theorem unlock_of_guardedMove {i : Instr} (h : GuardedMove i s t) (hlocked : s.sess.unlocked = false)
    (hunlocked : t.sess.unlocked = true) : s.sess.phase ≠ .exec ∧ ∃ mods, i = .unlock mods s.cfg.unlockKey := by
  rcases h.unlocked with hsame | ⟨-, hphase, hkey⟩ | ⟨-, rfl⟩
  · cases hunlocked.symm.trans (hsame.trans hlocked)
  · exact ⟨hphase, hkey⟩
  · cases hunlocked

theorem reset_of_guardedMove {i : Instr} (h : GuardedMove i s t) (hunlocked : s.sess.unlocked = true)
    (hlocked : t.sess.unlocked = false) : ResetsDevice i s t := by
  rcases h.unlocked with hsame | ⟨htrue, -, -⟩ | hreset
  · cases hlocked.symm.trans (hsame.trans hunlocked)
  · cases hlocked.symm.trans htrue
  · exact hreset

theorem port_does_not_unlock {i : Instr} (hi : i.ofPort) (h : exec i s = .next t) (hlocked : s.sess.unlocked = false) :
    t.sess.unlocked = false := by
  refine Bool.eq_false_iff.mpr fun hunlocked => ?_
  obtain ⟨-, mods, rfl⟩ := unlock_of_guardedMove (exec_guardedMove h) hlocked hunlocked
  cases hi.2

/-- The byte that unlocks is the last of the header of an UNLOCK with the right key (R322, R325, R331). -/
theorem unlock_of_useByte {use : RxUse} {b : Byte} (h : useByte use b s = .next t) (hlocked : s.sess.unlocked = false)
    (hunlocked : t.sess.unlocked = true) :
    use = .header ∧ s.sess.phase ≠ .exec ∧ s.sess.hdrFill + 1 = s.sess.hdrNeed ∧
      ∃ mods, decodeCommand (s.commandBytes b) = .ok (.unlock mods s.cfg.unlockKey) := by
  rcases useByte_next h with h | ⟨bytes, i, hi, ⟨-, rfl, h⟩ | ⟨rfl, hlast, rfl, h⟩⟩
  · cases hunlocked.symm.trans ((unlocked_of_lasting h).trans hlocked)
  · obtain ⟨-, mods, rfl⟩ := unlock_of_guardedMove (exec_guardedMove h) hlocked hunlocked
    exact absurd hi decodeCommand_single_ne_unlock
  · obtain ⟨hphase, mods, rfl⟩ := unlock_of_guardedMove (exec_guardedMove h) hlocked hunlocked
    exact ⟨rfl, hphase, hlast, mods, hi⟩

/-- A command never locks: only a device reset does. -/
theorem useByte_keeps_unlocked {use : RxUse} {b : Byte} (h : useByte use b s = .next t)
    (hunlocked : s.sess.unlocked = true) : t.sess.unlocked = true := by
  refine Bool.not_eq_false _ ▸ fun hlocked => ?_
  rcases useByte_next h with h | ⟨bytes, i, hi, h⟩
  · cases hlocked.symm.trans ((unlocked_of_lasting h).trans hunlocked)
  · have hcommand := (decodeCommand_isCommand hi).1
    have hreset : ∃ v, ResetsDevice i v t := by
      rcases h with ⟨-, -, h⟩ | ⟨-, -, -, h⟩
      · exact ⟨_, reset_of_guardedMove (exec_guardedMove h) hunlocked hlocked⟩
      · exact ⟨_, reset_of_guardedMove (exec_guardedMove h) hunlocked hlocked⟩
    obtain ⟨v, ⟨rfl, -⟩ | ⟨rfl, -⟩, -⟩ := hreset <;> cases hcommand

/-- A turn of the main loop that unlocks. -/
theorem unlock_of_mainLoopStep (h : mainLoopStep s = .next t) (hlocked : s.sess.unlocked = false)
    (hunlocked : t.sess.unlocked = true) :
    ∃ b mods, s.main.asleep = false ∧ s.main.point = .rxTake .header b ∧ s.sess.phase ≠ .exec ∧
      s.sess.hdrFill + 1 = s.sess.hdrNeed ∧ decodeCommand (s.commandBytes b) = .ok (.unlock mods s.cfg.unlockKey) := by
  rcases mainLoopStep_cases h with h | ⟨hawake, u, hcall, hafter⟩
  · cases hunlocked.symm.trans ((unlocked_of_lasting h).trans hlocked)
  · have hu := port_does_not_unlock (mainCall_ofPort _) hcall hlocked
    rcases hafter with h | ⟨use, b, v, hpoint, hbyte, h⟩
    · cases hunlocked.symm.trans ((unlocked_of_lasting h).trans hu)
    · obtain ⟨rfl, hphase, hlast, mods, hkey⟩ :=
        unlock_of_useByte hbyte hu ((unlocked_of_lasting h).symm.trans hunlocked)
      rw [hpoint] at hcall
      have hframe := execRxTake_frame hcall
      have hsess : u.sess = s.sess := by rw [hframe]
      have hcfg : u.cfg = s.cfg := by rw [hframe]
      rw [hsess] at hphase hlast
      rw [State.commandBytes, hsess, hcfg] at hkey
      exact ⟨b, mods, hawake, hpoint, hphase, hlast, hkey⟩

/-- A turn of the main loop that locks: its RESET_EXEC, after which it is at ATTACH again (R298, R321). -/
theorem lock_of_mainLoopStep (h : mainLoopStep s = .next t) (hunlocked : s.sess.unlocked = true)
    (hlocked : t.sess.unlocked = false) :
    s.dev.pendingReset = true ∧ t.dev.state = .detached ∧ t.main.point = .attach := by
  rcases mainLoopStep_next h with ⟨-, rfl⟩ | ⟨-, -, p, -, rfl⟩ | ⟨-, -, u, hcall, hresume⟩
  · cases hlocked.symm.trans hunlocked
  · have hsame : (s.pollIteration p).sess.unlocked = s.sess.unlocked := unlocked_of_lasting (s.pollIteration_lasting p)
    cases hlocked.symm.trans (hsame.trans hunlocked)
  · have hu : u.sess.unlocked = false := by
      refine Bool.eq_false_iff.mpr fun hu => ?_
      rcases mainResume_next hresume with h | ⟨use, b, v, -, hbyte, h⟩
      · cases hlocked.symm.trans ((unlocked_of_lasting h).trans hu)
      · cases hlocked.symm.trans ((unlocked_of_lasting h).trans (useByte_keeps_unlocked hbyte hu))
    obtain ⟨⟨hpoint, hstaged⟩ | ⟨hpoint, -⟩, rfl⟩ := reset_of_guardedMove (exec_guardedMove hcall) hunlocked hu
    · generalize s.main.point = p at hpoint hresume
      cases p with
      | resetExec =>
        obtain rfl := Host.Outcome.next.inj hresume
        exact ⟨hstaged, rfl, rfl⟩
      | _ => cases hpoint
    · generalize s.main.point = p at hpoint
      cases p <;> cases hpoint

end

/-- Settles O54. -/
theorem onlyTheKeyUnlocks : Obligations.OnlyTheKeyUnlocks := by
  intro s t h
  rcases step_next h with ⟨l, rest, i, -, hi, h⟩ | ⟨hport, rest, h⟩
  · refine ⟨fun hlocked hunlocked => ?_, fun hunlocked hlocked => ?_⟩
    · cases hunlocked.symm.trans (port_does_not_unlock hi h hlocked)
    · obtain ⟨hreset, rfl⟩ := reset_of_guardedMove (exec_guardedMove h) hunlocked hlocked
      exact ⟨hreset.imp And.right And.right, rfl, rfl⟩
  · refine ⟨fun hlocked hunlocked => ?_, fun hunlocked hlocked => ?_⟩
    · obtain ⟨b, mods, hturn⟩ := unlock_of_mainLoopStep h hlocked hunlocked
      exact ⟨b, mods, hport, hturn⟩
    · obtain ⟨hstaged, hstate, hpoint⟩ := lock_of_mainLoopStep h hunlocked hlocked
      exact ⟨.inl hstaged, hstate, hpoint⟩

end Sys2Proof.Machine
end

section
/-! The cartridge bus and the commands that read it (20_memory.md R97; 43_command_protocol.md R326, R333, R334). -/

namespace Sys2Proof.Machine

open Sys2Proof.Statements

/-! ### One bus operation -/

/-- The oracle answers the operation just traced, and nothing but the trace, the inputs and the counter of free values
changes (R97). -/
theorem State.oracleNext_traceBus_answers (s : State) (op : BusOp) :
    ∃ cart draws, answers s s.oracleByte cart draws ∧
      (s.traceBus op).oracleNext = { s with busTrace := s.busTrace ++ [op], cart := cart, draws := draws } := by
  cases hcart : s.cart with
  | nil =>
    have hnext : (s.traceBus op).oracleNext = (s.traceBus op).drew 1 := by
      rw [State.oracleNext, State.traceBus_cart, hcart]
    exact ⟨s.cart, s.draws + 1, .inr ⟨hcart, hcart, rfl⟩, hnext⟩
  | cons v rest =>
    have hbyte : s.oracleByte = v := by rw [State.oracleByte, hcart]
    have hnext : (s.traceBus op).oracleNext = (s.traceBus op).setCart rest := by
      rw [State.oracleNext, State.traceBus_cart, hcart]
    exact ⟨rest, s.draws, .inl ⟨hbyte ▸ hcart, rfl⟩, hnext⟩

theorem State.busRead_answers (s : State) (addr : Word) (cs ce : Bool) :
    ∃ v cart draws, answers s v cart draws ∧
      s.busRead addr cs ce =
        (v, { s with busTrace := s.busTrace ++ [.read addr cs ce], cart := cart, draws := draws }) := by
  obtain ⟨cart, draws, hanswer, hnext⟩ := s.oracleNext_traceBus_answers (.read addr cs ce)
  exact ⟨_, cart, draws, hanswer, congrArg (Prod.mk _) hnext⟩

theorem State.pinRead_answers (s : State) :
    ∃ v cart draws, answers s v cart draws ∧
      s.pinRead = (if v.getLsbD 0 then 0x01#8 else 0x00#8,
        { s with busTrace := s.busTrace ++ [.pin], cart := cart, draws := draws }) := by
  obtain ⟨cart, draws, hanswer, hnext⟩ := s.oracleNext_traceBus_answers .pin
  exact ⟨_, cart, draws, hanswer, congrArg (Prod.mk _) hnext⟩

/-! ### The start of a command and its output -/

/-- A command that the phase and the lock let begin does its work on the session of R326. -/
theorem startCommand_of_begins {s : State} {id : BitVec 5} (h : begins s id) (mods : BitVec 3) (header : List Byte)
    (f : State → State) :
    startCommand id mods header f s = .next ((f { s with sess := entered s mods id header }).setRet .none) := by
  unfold startCommand
  rcases h with hheader | ⟨hawait, hlock⟩
  · rw [hheader]
    rfl
  · have hpasses : ¬ (lockRequired id && !s.sess.unlocked) = true := by
      rcases hlock with h | h <;> simp [h]
    rw [hawait]
    exact if_neg hpasses

theorem State.setOut_cons (s : State) (b : Byte) (bs : List Byte) :
    s.setOut (b :: bs) = { s with sess := { s.sess with out := b :: bs } } :=
  if_neg (List.cons_ne_nil b bs)

/-- Settles O40: the work of both commands is one bus operation, whose answer is the output. -/
theorem readingCommandsAskTheBusOnce : Obligations.ReadingCommandsAskTheBusOnce := by
  intro s mods
  refine ⟨fun addr hbegins => ?_, fun hbegins => ?_⟩
  · obtain ⟨v, cart, draws, hanswer, hread⟩ :=
      State.busRead_answers { s with sess := entered s mods 0x05#5 (addrBytes addr) } addr (modCs mods) false
    refine ⟨v, cart, draws, hanswer, ?_⟩
    show execRead mods addr s = _
    rw [execRead, startCommand_of_begins hbegins, hread, State.setOut_cons]
    rfl
  · obtain ⟨v, cart, draws, hanswer, hpin⟩ := State.pinRead_answers { s with sess := entered s mods 0x04#5 [] }
    refine ⟨v, cart, draws, hanswer, ?_⟩
    show execGetMode mods s = _
    rw [execGetMode, startCommand_of_begins hbegins, hpin, State.setOut_cons]
    rfl

end Sys2Proof.Machine
end

section
/-! A turn of the main loop as a firmware call and what follows it, and the dispatcher up to its next call
(43_command_protocol.md R321, R322, R328). -/

namespace Sys2Proof.Machine

open Sys2Proof.Statements

/-! ### A turn of the main loop (R321; log 1) -/

section
variable {s t : State} {rest : List Turn}

theorem step_of_mainLoop_turn (hport : s.port = .mainLoop :: rest ∨ (s.port = [] ∧ rest = [])) :
    step s = mainLoopStep { s with port := rest } := by
  unfold step nextTurn
  rcases hport with hport | ⟨hport, rfl⟩
  · rw [hport]
    rfl
  · have hsame : { s with port := [] } = s := hport ▸ rfl
    rw [hsame, hport]

/-- Outside a flash poll, a turn is the call of its place and what follows it. -/
theorem mainLoopStep_of_call (hawake : s.main.asleep = false) (hpoll : s.main.point ≠ .top ∨ s.sess.poll = none)
    (hcall : exec (mainCall s.main.point) s = .next t) : mainLoopStep s = mainResume s.main.point t := by
  unfold mainLoopStep
  rw [if_neg (Bool.eq_false_iff.mp hawake)]
  split
  · rename_i hpoint hsome
    rcases hpoll with hnot | hnone
    · exact absurd hpoint hnot
    · cases hsome.symm.trans hnone
  · rw [hcall]

theorem step_of_call {p : MainPoint} (hport : s.port = .mainLoop :: rest ∨ (s.port = [] ∧ rest = []))
    (hawake : s.main.asleep = false) (hpoint : s.main.point = p) (hpoll : p ≠ .top ∨ s.sess.poll = none)
    (hcall : exec (mainCall p) { s with port := rest } = .next t) : step s = mainResume p t := by
  subst hpoint
  rw [step_of_mainLoop_turn hport]
  exact mainLoopStep_of_call hawake hpoll hcall

theorem mainLoopStep_of_poll {p : Poll} (hawake : s.main.asleep = false) (hpoint : s.main.point = .top)
    (hpoll : s.sess.poll = some p) : mainLoopStep s = .next ((s.pollIteration p).setRet .none) := by
  unfold mainLoopStep
  rw [if_neg (Bool.eq_false_iff.mp hawake), hpoint, hpoll]

/-- RX_TAKE(1) from a slice that is not empty (R274). -/
theorem exec_rxTake_one {x : RxSlice} (hawake : s.main.asleep = false) (hslice : s.rx.slice = some x)
    (hlen : 1 ≤ x.len) :
    exec (.rxTake 1#8) s =
      .next { s with rx := { s.rx with slice := some { half := x.half, off := x.off + 1, len := x.len - 1 } }
                     ret := .none } := by
  refine (whenAwake_of_awake hawake _).trans ?_
  rw [hslice]
  exact if_neg (Nat.not_lt.mpr hlen)

theorem exec_isActive (hawake : s.main.asleep = false) (hactive : s.active = true) :
    exec .isActive s = .next { s with ret := .flag true } := by
  refine (whenAwake_of_awake hawake _).trans ?_
  rw [hactive]
  rfl

end

/-! ### The dispatcher up to its next call (R322, R328) -/

/-- The id is matched as a number in the model and compared as a word in the statement. -/
theorem State.streamPoint_eq_streamed (s : State) : s.streamPoint = streamed s := by
  unfold State.streamPoint streamed commandId
  generalize s.sess.cmd.extractLsb' 0 5 = id
  simp only [← BitVec.toNat_inj (x := id), BitVec.reduceToNat]
  generalize id.toNat = n
  split
  case h_1 | h_2 | h_3 | h_4 => rfl
  case h_5 h6 h8 hA hB =>
    have hended : s.finishAndAwait = goesTo { s with sess := ended s.sess } (.rxAcq .id) := rfl
    rw [hended, if_neg hB, if_neg h6, if_neg h8, if_neg hA, ite_self]

theorem State.dispatchPoint_eq_dispatched (s : State) : s.dispatchPoint = dispatched s := by
  unfold State.dispatchPoint dispatched
  cases s.sess.phase with
  | awaitId => rfl
  | header => rfl
  | exec =>
    rw [State.streamPoint_eq_streamed]
    cases s.sess.poll with
    | some p => exact (if_pos rfl).trans (if_pos (Option.some_ne_none p)).symm
    | none =>
      refine (if_neg Bool.false_ne_true).trans (Eq.trans ?_ (if_neg (not_not_intro rfl)).symm)
      refine if_congr Iff.rfl rfl ?_
      by_cases hstep : s.sess.step < s.sess.out.length
      · rw [if_pos hstep, List.getElem?_eq_getElem hstep, List.getD_eq_getElem _ _ hstep]
        rfl
      · rw [if_neg hstep, List.getElem?_eq_none (Nat.le_of_not_lt hstep)]
        rfl

/-- In a stream without output `dispatch_step()` is `stream_step()`. -/
theorem dispatched_of_stream {s : State} (hphase : s.sess.phase = .exec) (hpoll : s.sess.poll = none)
    (hout : s.sess.out = []) : dispatched s = streamed s := by
  unfold dispatched
  rw [hphase]
  exact (if_neg (not_not_intro hpoll)).trans (if_pos hout)

theorem streamed_of_countEnded {s : State} (hid : s.sess.cmd.extractLsb' 0 5 ∈ [0x06#5, 0x08#5, 0x0A#5])
    (hcount : s.sess.count = 0#16) : streamed s = goesTo { s with sess := ended s.sess } (.rxAcq .id) := by
  have hflash : s.sess.cmd.extractLsb' 0 5 ≠ 0x0B#5 := ne_of_mem_of_not_mem hid (by decide)
  exact (if_neg hflash).trans (if_pos hcount)

theorem streamed_of_flashBurst_countEnded {s : State} (hid : s.sess.cmd.extractLsb' 0 5 = 0x0B#5)
    (hcount : s.sess.count = 0#16) :
    streamed s = goesTo { s with sess := { s.sess with out := [0x00#8, 0x00#8], step := 0 } } (.emitAcq 0x00#8) :=
  (if_pos hid).trans (if_pos hcount)

end Sys2Proof.Machine
end

section
/-! The main-loop steps of the streams and of the flash poll (43_command_protocol.md R335-R341; 30_encoding.md R126). -/

namespace Sys2Proof.Machine

open Sys2Proof.Statements

/-! ### The streams' own computation (R335, R337, R340, R341) -/

/-- Chip-select is bit 7 of the command byte (R128). -/
theorem modCs_commandMods (c : Byte) : modCs (commandMods c) = c.getLsbD 7 := by
  simp [modCs, commandMods]

/-- The alternate strobe is bit 6 of the command byte (R128). -/
theorem modAlt_commandMods (c : Byte) : modAlt (commandMods c) = c.getLsbD 6 := by
  simp [modAlt, commandMods]

/-- The session after one byte of a burst: the address wraps and the count has gone down (R126). -/
def Sess.burstAdvanced (x : Sess) : Sess := { x with addr := x.addr + 1#16, count := x.count - 1#16 }

theorem countDown_of_ne_zero {c : Word} (h : c ≠ 0#16) : countDown c = c - 1#16 := if_neg h

theorem State.advanceBurst_of_count {s : State} (h : s.sess.count ≠ 0#16) :
    s.advanceBurst = { s with sess := s.sess.burstAdvanced } := by
  rw [State.advanceBurst, countDown_of_ne_zero h]
  rfl

theorem State.streamWriteBurst_of_count {s : State} (h : s.sess.count ≠ 0#16) (b : Byte) :
    s.streamWriteBurst b =
      { s with busTrace := s.busTrace ++ [.write s.sess.addr b (s.sess.cmd.getLsbD 7) (s.sess.cmd.getLsbD 6)]
               sess := s.sess.burstAdvanced } := by
  rw [State.streamWriteBurst, modCs_commandMods, modAlt_commandMods]
  exact State.advanceBurst_of_count h

/-- The bus write of one record of the stored sequence (R341). -/
def WriteRec.busOp (r : WriteRec) : BusOp := .write r.addr r.data (r.flags.getLsbD 2) (r.flags.getLsbD 1)

/-- The replay writes the records to the bus in their order and does nothing else. -/
theorem State.replay_eq (s : State) (rs : List WriteRec) :
    s.replay rs = { s with busTrace := s.busTrace ++ rs.map WriteRec.busOp } := by
  induction rs generalizing s with
  | nil => simp [State.replay]
  | cons r rs ih =>
    rw [State.replay, ih, List.map_cons, List.append_cons]
    rfl

/-- The erase sentinel 0xFF issues no write (R341). -/
theorem State.streamFlashBurst_erased {s : State} (h : s.sess.count ≠ 0#16) :
    s.streamFlashBurst 0xFF#8 = { s with sess := s.sess.burstAdvanced } :=
  State.advanceBurst_of_count h

theorem State.streamFlashBurst_written {s : State} (h : s.sess.count ≠ 0#16) {b : Byte} (hb : b ≠ 0xFF#8) :
    s.streamFlashBurst b =
      { s with
        busTrace := s.busTrace ++ (s.flashseq.recs.take s.flashseq.count).map WriteRec.busOp ++
          [.write s.sess.addr b (s.sess.cmd.getLsbD 7) (s.sess.cmd.getLsbD 6)]
        sess := { s.sess.burstAdvanced with
          poll := some { addr := s.sess.addr, pol := b.getLsbD 7, cs := s.sess.cmd.getLsbD 7 } } } := by
  refine (if_neg hb).trans ?_
  simp only [modCs_commandMods, modAlt_commandMods, State.advanceBurst_of_count h, State.replay_eq]
  rfl

/-- A record of the write sequence after the byte of one of its three parts has arrived (R340). -/
theorem writeRecByte_eq (r : WriteRec) (part : Nat) (b : Byte) (flags : BitVec 3) :
    writeRecByte r part b flags =
      if part = 0 then { addr := r.addr.extractLsb' 8 8 ++ b, data := r.data, flags := flags }
      else if part = 1 then { addr := b ++ r.addr.extractLsb' 0 8, data := r.data, flags := r.flags }
      else { addr := r.addr, data := b, flags := r.flags } := by
  match part with
  | 0 => rfl
  | 1 => rfl
  | _ + 2 => rfl

/-- The stored sequence after the stream's next byte (R340). -/
def State.sequenceWith (s : State) (b : Byte) : List WriteRec :=
  s.flashseq.recs.modify (s.sess.step / 3) fun r => writeRecByte r (s.sess.step % 3) b (commandMods s.sess.cmd)

theorem State.streamWriteSequence_of_count {s : State} (h : s.sess.count ≠ 0#16) (b : Byte) :
    s.streamWriteSequence b =
      { s with flashseq := { s.flashseq with recs := s.sequenceWith b }
               sess := { s.sess with step := s.sess.step + 1, count := s.sess.count - 1#16 } } := by
  rw [State.streamWriteSequence, countDown_of_ne_zero h]
  rfl

theorem State.afterBurstAcq_of_space {s : State} {n : Nat} (h : s.ret = .acquired true n) :
    s.afterBurstAcq = s.streamReadBurst.2.at (.burstPut s.streamReadBurst.1) := by
  rw [State.afterBurstAcq, h]

theorem State.afterBurstAcq_of_full {s : State} {n : Nat} (h : s.ret = .acquired false n) :
    s.afterBurstAcq = s.at .flush := by
  rw [State.afterBurstAcq, h]

theorem State.streamReadBurst_answers (s : State) :
    ∃ v cart draws, answers s v cart draws ∧
      s.streamReadBurst =
        (v, { s with busTrace := s.busTrace ++ [.read s.sess.addr (s.sess.cmd.getLsbD 7) (s.sess.cmd.getLsbD 6)]
                     cart := cart, draws := draws }) := by
  rw [State.streamReadBurst, modCs_commandMods, modAlt_commandMods]
  exact s.busRead_answers _ _ _

/-! ### The steps of the streams -/

section
variable {s t : State} {rest : List Turn}

/-- ACQ_TX of READ_BURST with space: the read happens in this step, and its byte waits for the next (R335). -/
theorem step_burstAcq_of_space {n : Nat} (hport : s.port = .mainLoop :: rest ∨ (s.port = [] ∧ rest = []))
    (hawake : s.main.asleep = false) (hpoint : s.main.point = .burstAcq)
    (hcall : exec .acqTx { s with port := rest } = .next t) (hspace : t.ret = .acquired true n) :
    ∃ v cart draws, answers s v cart draws ∧
      step s = .next (goesTo
        { t with
          busTrace := s.busTrace ++ [.read s.sess.addr (s.sess.cmd.getLsbD 7) (s.sess.cmd.getLsbD 6)]
          cart := cart, draws := draws }
        (.burstPut v)) := by
  have hframe := execAcqTx_frame hcall
  have hsess : t.sess = s.sess := by rw [hframe]
  have htrace : t.busTrace = s.busTrace := by rw [hframe]
  have hcart : t.cart = s.cart := by rw [hframe]
  have hdraws : t.draws = s.draws := by rw [hframe]
  obtain ⟨v, cart, draws, hanswer, hread⟩ := t.streamReadBurst_answers
  rw [answers, hcart, hdraws] at hanswer
  refine ⟨v, cart, draws, hanswer, ?_⟩
  rw [step_of_call hport hawake hpoint (.inl nofun) hcall, mainResume, State.afterBurstAcq_of_space hspace, hread,
    hsess, htrace]
  rfl

/-- TX_PUT of READ_BURST (R335). -/
theorem step_burstPut {v : Byte} (hport : s.port = .mainLoop :: rest ∨ (s.port = [] ∧ rest = []))
    (hawake : s.main.asleep = false) (hpoint : s.main.point = .burstPut v) (hcount : s.sess.count ≠ 0#16)
    (hcall : exec (.txPut v) { s with port := rest } = .next t) :
    step s = .next (dispatched { t with sess := s.sess.burstAdvanced }) := by
  have hframe := execTxPut_frame hcall
  have hsess : t.sess = s.sess := by rw [hframe]
  rw [← hsess] at hcount ⊢
  rw [step_of_call hport hawake hpoint (.inl nofun) hcall, mainResume, State.dispatchPoint_eq_dispatched,
    State.advanceBurst_of_count hcount]

/-- The RX_TAKE of a byte that the dispatcher only stores or writes. -/
theorem step_of_takenByte {use : RxUse} {b : Byte} {x : RxSlice}
    (hport : s.port = .mainLoop :: rest ∨ (s.port = [] ∧ rest = [])) (hawake : s.main.asleep = false)
    (hslice : s.rx.slice = some x) (hlen : 1 ≤ x.len) (hpoint : s.main.point = .rxTake use b)
    (hbyte : useByte use b (tookByte s x rest) = .next t) : step s = .next (dispatched t) := by
  have htake : exec (.rxTake 1#8) { s with port := rest } = .next (tookByte s x rest) :=
    exec_rxTake_one (s := { s with port := rest }) hawake hslice hlen
  rw [step_of_call hport hawake hpoint (.inl nofun) htake, mainResume, hbyte, ← State.dispatchPoint_eq_dispatched]
  rfl

/-- A turn at the head of the loop while the device is active and a command streams (R321, R322). -/
theorem step_top_of_stream (hport : s.port = .mainLoop :: rest ∨ (s.port = [] ∧ rest = []))
    (hawake : s.main.asleep = false) (hpoint : s.main.point = .top) (hactive : s.active = true)
    (hphase : s.sess.phase = .exec) (hpoll : s.sess.poll = none) (hout : s.sess.out = []) :
    step s = .next (streamed { s with port := rest, ret := .flag true }) := by
  have hcall : exec .isActive { s with port := rest } = .next { s with port := rest, ret := .flag true } :=
    exec_isActive (s := { s with port := rest }) hawake hactive
  rw [step_of_call hport hawake hpoint (.inr hpoll) hcall, mainResume, State.afterActive, if_pos rfl,
    State.dispatchPoint_eq_dispatched]
  exact congrArg Host.Outcome.next (dispatched_of_stream hphase hpoll hout)

end

/-- Settles O44: each clause is the step lemma of its place, with what the stream does with its byte. -/
theorem streamStepsUseOneByte : Obligations.StreamStepsUseOneByte := by
  intro s rest hport hawake
  refine ⟨fun t hpoint hcall => ⟨fun n hspace => ?_, fun n hfull => ?_⟩, fun v t hpoint hcount hcall => ?_,
    fun b x hslice hlen hcount => ⟨fun hpoint => ?_, fun hpoint hb => ?_, fun hpoint hb => ?_, fun hpoint => ?_⟩,
    fun hpoint hconf hsusp hline hstaged hphase hpoll hout hcount => ?_⟩
  · exact step_burstAcq_of_space hport hawake hpoint hcall hspace
  · rw [step_of_call hport hawake hpoint (.inl nofun) hcall, mainResume, State.afterBurstAcq_of_full hfull]
    rfl
  · exact step_burstPut hport hawake hpoint hcount hcall
  · exact step_of_takenByte hport hawake hslice hlen hpoint
      (congrArg Host.Outcome.next ((tookByte s x rest).streamWriteBurst_of_count hcount b))
  · subst hb
    exact step_of_takenByte hport hawake hslice hlen hpoint
      (congrArg Host.Outcome.next (State.streamFlashBurst_erased (s := tookByte s x rest) hcount))
  · exact step_of_takenByte hport hawake hslice hlen hpoint
      (congrArg Host.Outcome.next (State.streamFlashBurst_written (s := tookByte s x rest) hcount hb))
  · refine ⟨s.sequenceWith b, ?_, List.length_modify _ _ _, fun j hj => ?_, fun r hr => ?_⟩
    · exact step_of_takenByte hport hawake hslice hlen hpoint
        (congrArg Host.Outcome.next ((tookByte s x rest).streamWriteSequence_of_count hcount b))
    · exact List.getElem?_modify_ne _ _ hj.symm
    · rw [State.sequenceWith, List.getElem?_modify_eq, hr]
      exact congrArg some (writeRecByte_eq r _ b _)
  · have hactive : s.active = true := by simp [State.active, hconf, hsusp, hline, hstaged]
    rw [step_top_of_stream hport hawake hpoint hactive hphase hpoll hout]
    refine ⟨fun hid => ?_, fun hid => ?_⟩
    · exact congrArg Host.Outcome.next (streamed_of_countEnded hid hcount)
    · exact congrArg Host.Outcome.next (streamed_of_flashBurst_countEnded hid hcount)

/-! ### The flash poll (R321, R339) -/

section
variable {s t u : State} {p : Poll} {a b : Byte}

/-- Two equal reads of the right polarity end the poll; only POLL_FLASH_DATA has an output. -/
theorem State.pollIteration_of_agree (hread : s.busRead p.addr p.cs false = (a, t))
    (hread2 : t.busRead p.addr p.cs false = (b, u)) (hagree : a = b ∧ b.getLsbD 7 = p.pol) :
    s.pollIteration p =
      { u with sess := if u.sess.cmd.extractLsb' 0 5 = 0x09#5 then { u.sess with poll := none, out := [b], step := 0 }
                       else { u.sess with poll := none } } := by
  simp only [State.pollIteration, hread, hread2]
  rw [if_pos hagree]
  by_cases hid : u.sess.cmd.extractLsb' 0 5 = 0x09#5
  · rw [if_pos hid]
    exact if_pos hid
  · rw [if_neg hid]
    exact if_neg hid

theorem State.pollIteration_of_disagree (hread : s.busRead p.addr p.cs false = (a, t))
    (hread2 : t.busRead p.addr p.cs false = (b, u)) (hdisagree : ¬ (a = b ∧ b.getLsbD 7 = p.pol)) :
    s.pollIteration p = u := by
  simp only [State.pollIteration, hread, hread2]
  exact if_neg hdisagree

end

/-- Settles O45: the second read asks the oracle as the first has left it. -/
theorem pollStepReadsTwice : Obligations.PollStepReadsTwice := by
  intro s rest p hport hawake hpoint hpoll
  obtain ⟨a, cart, draws, hanswer, hread⟩ := State.busRead_answers { s with port := rest } p.addr p.cs false
  obtain ⟨b, cart2, draws2, hanswer2, hread2⟩ := State.busRead_answers
    { s with port := rest, busTrace := s.busTrace ++ [.read p.addr p.cs false], cart := cart, draws := draws }
    p.addr p.cs false
  have hstep : step s = .next ((State.pollIteration { s with port := rest } p).setRet .none) :=
    (step_of_mainLoop_turn hport).trans (mainLoopStep_of_poll hawake hpoint hpoll)
  rw [List.append_assoc] at hread2
  refine ⟨a, b, cart, draws, cart2, draws2, hanswer, hanswer2, fun heq hpol => ?_, fun hne => ?_⟩
  · rw [hstep, State.pollIteration_of_agree hread hread2 ⟨heq, hpol⟩]
    rfl
  · have hdisagree : ¬ (a = b ∧ b.getLsbD 7 = p.pol) := not_and_or.mpr hne
    rw [hstep, State.pollIteration_of_disagree hread hread2 hdisagree]
    rfl

end Sys2Proof.Machine
end

section
/-! What decodes is well formed and is the encoding of what it decodes to (30_encoding.md R110-R133): what each
shared decoder accepts, then one reading lemma for each group of operation words, for SETUP packets and for commands. -/

namespace Sys2Proof

/-- `i` is an operation whose image is `m`. -/
def IsReading (p : Params) (m : Image) (i : Instr) : Prop := i.wellFormed = true ∧ encode p i = m

/-! ### Words and bytes are made of their fields -/

theorem eq_ofNat_of_toNat_eq {w n : Nat} {x : BitVec w} (h : x.toNat = n) : x = BitVec.ofNat w n := by
  rw [← h, BitVec.ofNat_toNat, BitVec.setWidth_eq]

theorem mkWord_fields (w : Word) : mkWord (wordGroup w) (wordKind w) (wordArg w) = w := by
  have hhigh : wordGroup w ++ wordKind w = w.extractLsb' 8 8 :=
    BitVec.extractLsb'_append_extractLsb'_eq_extractLsb' rfl
  rw [mkWord, hhigh]
  exact BitVec.extractLsb'_append_extractLsb' (w := 8) (len := 8) (x := w)

theorem mkCommand_fields (c : Byte) : mkCommand (commandMods c) (commandId c) = c :=
  BitVec.extractLsb'_append_extractLsb' (w := 3) (len := 5) (x := c)

theorem eq_zero_of_nibbles {arg : Byte} (hhigh : arg.extractLsb' 4 4 = 0#4) (hlow : arg.extractLsb' 0 4 = 0#4) :
    arg = 0#8 := by
  rw [← BitVec.extractLsb'_append_extractLsb' (w := 4) (len := 4) (x := arg), hhigh, hlow]
  rfl

/-- An argument of six bits (R119, R121). -/
theorem low6_of_high2 {arg : Byte} (h : arg.extractLsb' 6 2 = 0#2) : 0#2 ++ arg.extractLsb' 0 6 = arg := by
  rw [← h]
  exact BitVec.extractLsb'_append_extractLsb' (w := 2) (len := 6) (x := arg)

theorem high2_of_le63 {arg : Byte} (h : arg.toNat ≤ 63) : arg.extractLsb' 6 2 = 0#2 := by
  revert arg; decide

theorem trnArg_of_fields (arg : Byte) :
    arg.extractLsb' 4 4 ++ arg.extractLsb' 1 3 ++ BitVec.ofBool (arg.getLsbD 0) = arg := by
  revert arg; decide

theorem requestType_of_fields (b : Byte) :
    BitVec.ofBool (b.getLsbD 7) ++ b.extractLsb' 5 2 ++ b.extractLsb' 0 5 = b := by
  revert b; decide

/-! ### What each shared decoder accepts -/

section
variable {p : Params} {arg : Byte} {payload : List Byte} {i j : Instr}

theorem decodeBare_eq_ok_iff : decodeBare arg payload j = .ok i ↔ arg = 0#8 ∧ payload = [] ∧ i = j := by
  unfold decodeBare
  split_ifs with harg hpayload
  · simp [harg]
  · simp [hpayload]
  · simp [not_not.mp harg, not_not.mp hpayload, eq_comm]

theorem decodeNoPayload_eq_ok_iff : decodeNoPayload payload j = .ok i ↔ payload = [] ∧ i = j := by
  unfold decodeNoPayload
  split_ifs with hpayload
  · simp [hpayload]
  · simp [not_not.mp hpayload, eq_comm]

theorem decodeCounted_eq_ok_iff {k : List Byte → Decoded} :
    decodeCounted payload k = .ok i ↔
      ∃ n data, payload = n :: data ∧ n.toNat = data.length ∧ data.length ≤ 64 ∧ k data = .ok i := by
  unfold decodeCounted
  split
  · simp
  · split_ifs with hcount
    · simp [hcount]
    · simp
      omega

theorem decodeTrnArg_eq_ok_iff {k : Endpoint → Bit → Decoded} :
    decodeTrnArg p arg k = .ok i ↔
      ∃ ep, p.endpoint (arg.extractLsb' 4 4) = some ep ∧ arg.extractLsb' 1 3 = 0#3 ∧
        halfLegal ep (arg.getLsbD 0) = true ∧ k ep (arg.getLsbD 0) = .ok i := by
  unfold decodeTrnArg
  split
  next hnone => simp [hnone]
  next ep hsome =>
    simp only [hsome, Option.some.injEq, exists_eq_left']
    split_ifs with hzero hhalf
    · simp [hzero]
    · simp only [not_not.mp hzero, hhalf, true_and]
    · simp only [hhalf, Bool.false_eq_true, false_and, and_false]

/-- The converse of `endpoint_epNumber`, for parameters of any values (R123). -/
theorem epNumber_of_endpoint {n : BitVec 4} {ep : Endpoint} (h : p.endpoint n = some ep) : p.epNumber ep = n := by
  unfold Params.endpoint at h
  split_ifs at h with hzero hnotif hbulk
  all_goals
    obtain rfl := Option.some.inj h
    simp [Params.epNumber, *]

theorem trnArg_of_endpoint {ep : Endpoint} (hep : p.endpoint (arg.extractLsb' 4 4) = some ep)
    (hzero : arg.extractLsb' 1 3 = 0#3) : trnArg p ep (arg.getLsbD 0) = arg := by
  rw [trnArg, epNumber_of_endpoint hep, ← hzero]
  exact trnArg_of_fields arg

/-! ### Lines -/

theorem isReading_of_decodeBare {group kind : BitVec 4} (h : decodeBare arg payload j = .ok i)
    (hj : IsReading p (lineOf group kind 0#8) j) : IsReading p (.line ⟨mkWord group kind arg, payload⟩) i := by
  obtain ⟨rfl, rfl, rfl⟩ := decodeBare_eq_ok_iff.mp h
  exact hj

theorem isReading_of_decodeNoPayload {group kind : BitVec 4} (h : decodeNoPayload payload j = .ok i)
    (hj : IsReading p (lineOf group kind arg) j) : IsReading p (.line ⟨mkWord group kind arg, payload⟩) i := by
  obtain ⟨rfl, rfl⟩ := decodeNoPayload_eq_ok_iff.mp h
  exact hj

theorem isReading_of_decodeEvent {kind : BitVec 4} (h : decodeEvent p kind arg payload = .ok i) :
    IsReading p (.line ⟨mkWord 0#4 kind arg, payload⟩) i := by
  unfold decodeEvent at h
  split at h
  case h_1 hkind | h_2 hkind | h_3 hkind | h_4 hkind =>
    obtain rfl := eq_ofNat_of_toNat_eq hkind
    exact isReading_of_decodeBare h ⟨rfl, rfl⟩
  case h_5 hkind =>
    obtain rfl := eq_ofNat_of_toNat_eq hkind
    split_ifs at h with hhigh hnone
    refine isReading_of_decodeNoPayload h ⟨decide_eq_true hnone, ?_⟩
    rw [encode, low6_of_high2 (not_not.mp hhigh)]
  case h_6 hkind =>
    obtain rfl := eq_ofNat_of_toNat_eq hkind
    split_ifs at h with hep hlow hlength
    obtain rfl := Decoded.ok.inj h
    refine ⟨beq_iff_eq.mpr (not_not.mp hlength), ?_⟩
    rw [encode, eq_zero_of_nibbles (not_not.mp hep) (not_not.mp hlow)]
  case h_7 hkind =>
    obtain rfl := eq_ofNat_of_toNat_eq hkind
    obtain ⟨ep, hep, hzero, hhalf, h⟩ := decodeTrnArg_eq_ok_iff.mp h
    obtain ⟨n, data, rfl, hcount, hlength, h⟩ := decodeCounted_eq_ok_iff.mp h
    obtain rfl := Decoded.ok.inj h
    refine ⟨by simp only [Instr.wellFormed, hhalf, hlength, decide_true, Bool.and_self], ?_⟩
    rw [encode, trnArg_of_endpoint hep hzero, eq_ofNat_of_toNat_eq hcount]
  case h_8 hkind =>
    obtain rfl := eq_ofNat_of_toNat_eq hkind
    obtain ⟨ep, hep, hzero, hhalf, h⟩ := decodeTrnArg_eq_ok_iff.mp h
    refine isReading_of_decodeNoPayload h ⟨hhalf, ?_⟩
    rw [encode, trnArg_of_endpoint hep hzero]
  case h_9 => cases h

theorem isReading_of_decodeFirmware {kind : BitVec 4} (h : decodeFirmware kind arg payload = .ok i) :
    IsReading p (.line ⟨mkWord 1#4 kind arg, payload⟩) i := by
  unfold decodeFirmware at h
  split at h
  case h_3 hkind =>
    obtain rfl := eq_ofNat_of_toNat_eq hkind
    split_ifs at h with hindex
    refine isReading_of_decodeNoPayload h ⟨rfl, ?_⟩
    rw [encode, low6_of_high2 (high2_of_le63 hindex)]
  case h_4 hkind =>
    obtain rfl := eq_ofNat_of_toNat_eq hkind
    split_ifs at h with hcount
    exact isReading_of_decodeNoPayload h ⟨decide_eq_true hcount, rfl⟩
  case h_6 hkind =>
    obtain rfl := eq_ofNat_of_toNat_eq hkind
    exact isReading_of_decodeNoPayload h ⟨rfl, rfl⟩
  case h_13 => cases h
  case h_1 hkind | h_2 hkind | h_5 hkind | h_7 hkind | h_8 hkind | h_9 hkind | h_10 hkind | h_11 hkind | h_12 hkind =>
    obtain rfl := eq_ofNat_of_toNat_eq hkind
    exact isReading_of_decodeBare h ⟨rfl, rfl⟩

theorem isReading_of_decodeSched {kind : BitVec 4} (h : decodeSched kind arg payload = .ok i) :
    IsReading p (.line ⟨mkWord 2#4 kind arg, payload⟩) i := by
  unfold decodeSched at h
  split at h
  case h_1 hkind | h_2 hkind =>
    obtain rfl := eq_ofNat_of_toNat_eq hkind
    exact isReading_of_decodeBare h ⟨rfl, rfl⟩
  case h_3 => cases h

theorem isReading_of_decodeLine {l : Line} (h : decodeLine p l = .ok i) : IsReading p (.line l) i := by
  obtain ⟨w, payload⟩ := l
  rw [← mkWord_fields w]
  unfold decodeLine at h
  split at h
  case h_1 hgroup =>
    rw [eq_ofNat_of_toNat_eq hgroup]
    exact isReading_of_decodeEvent h
  case h_2 hgroup =>
    rw [eq_ofNat_of_toNat_eq hgroup]
    exact isReading_of_decodeFirmware h
  case h_3 hgroup =>
    rw [eq_ofNat_of_toNat_eq hgroup]
    exact isReading_of_decodeSched h
  case h_4 => cases h

end

/-! ### Control requests -/

/-- The rows of R113: type bits, request code and the request they name. The reset code is compared first (R202). -/
inductive RequestRow (p : Params) : BitVec 2 → Byte → (SetupFields → Instr) → Prop
  | getStatus : RequestRow p 0#2 0x00#8 .getStatus
  | setAddress : RequestRow p 0#2 0x05#8 .setAddress
  | getDescriptor : RequestRow p 0#2 0x06#8 .getDescriptor
  | getConfiguration : RequestRow p 0#2 0x08#8 .getConfiguration
  | setConfiguration : RequestRow p 0#2 0x09#8 .setConfiguration
  | getInterface : RequestRow p 0#2 0x0A#8 .getInterface
  | setInterface : RequestRow p 0#2 0x0B#8 .setInterface
  | sendEncapsulatedCommand : RequestRow p 1#2 0x00#8 .sendEncapsulatedCommand
  | getEncapsulatedResponse : RequestRow p 1#2 0x01#8 .getEncapsulatedResponse
  | setLineCoding : RequestRow p 1#2 0x20#8 .setLineCoding
  | getLineCoding : RequestRow p 1#2 0x21#8 .getLineCoding
  | setControlLineState : RequestRow p 1#2 0x22#8 .setControlLineState
  | vendorReset : RequestRow p 2#2 p.vreqReset .vendorReset
  | vendorIdentify (h : p.vreqIdentify ≠ p.vreqReset) : RequestRow p 2#2 p.vreqIdentify .vendorIdentify

section
variable {p : Params} {t : BitVec 2} {rq : Byte} {q : SetupFields} {i : Instr} {k : SetupFields → Instr}

theorem requestRow_of_toNat_eq {code : Byte} (row : RequestRow p t code k) (hrq : rq.toNat = code.toNat)
    (h : Decoded.ok (k q) = .ok i) : ∃ k, RequestRow p t rq k ∧ i = k q :=
  ⟨k, BitVec.eq_of_toNat_eq hrq ▸ row, (Decoded.ok.inj h).symm⟩

theorem decodeStandard_row (h : decodeStandard rq q = .ok i) : ∃ k, RequestRow p 0#2 rq k ∧ i = k q := by
  unfold decodeStandard at h
  split at h
  case h_1 hrq => exact requestRow_of_toNat_eq .getStatus hrq h
  case h_2 hrq => exact requestRow_of_toNat_eq .setAddress hrq h
  case h_3 hrq => exact requestRow_of_toNat_eq .getDescriptor hrq h
  case h_4 hrq => exact requestRow_of_toNat_eq .getConfiguration hrq h
  case h_5 hrq => exact requestRow_of_toNat_eq .setConfiguration hrq h
  case h_6 hrq => exact requestRow_of_toNat_eq .getInterface hrq h
  case h_7 hrq => exact requestRow_of_toNat_eq .setInterface hrq h
  case h_8 => cases h

theorem decodeClass_row (h : decodeClass rq q = .ok i) : ∃ k, RequestRow p 1#2 rq k ∧ i = k q := by
  unfold decodeClass at h
  split at h
  case h_1 hrq => exact requestRow_of_toNat_eq .sendEncapsulatedCommand hrq h
  case h_2 hrq => exact requestRow_of_toNat_eq .getEncapsulatedResponse hrq h
  case h_3 hrq => exact requestRow_of_toNat_eq .setLineCoding hrq h
  case h_4 hrq => exact requestRow_of_toNat_eq .getLineCoding hrq h
  case h_5 hrq => exact requestRow_of_toNat_eq .setControlLineState hrq h
  case h_6 => cases h

theorem decodeVendor_row (h : decodeVendor p rq q = .ok i) : ∃ k, RequestRow p 2#2 rq k ∧ i = k q := by
  unfold decodeVendor at h
  split_ifs at h with hreset hidentify
  · exact requestRow_of_toNat_eq .vendorReset (congrArg _ hreset) h
  · exact requestRow_of_toNat_eq (.vendorIdentify (hidentify ▸ hreset)) (congrArg _ hidentify) h

/-- A packet decodes only by the row of its type bits and request code, with its own fields (R112, R113). -/
theorem decode_packetOf_row (h : decode p (packetOf t rq q) = .ok i) : ∃ k, RequestRow p t rq k ∧ i = k q := by
  rw [decodeSetup_packetOf] at h
  split at h
  case h_1 htype =>
    rw [eq_ofNat_of_toNat_eq htype]
    exact decodeStandard_row h
  case h_2 htype =>
    rw [eq_ofNat_of_toNat_eq htype]
    exact decodeClass_row h
  case h_3 htype =>
    rw [eq_ofNat_of_toNat_eq htype]
    exact decodeVendor_row h
  case h_4 => cases h

theorem decode_packetOf_of_row (row : RequestRow p t rq k) (q : SetupFields) :
    decode p (packetOf t rq q) = .ok (k q) := by
  rw [decodeSetup_packetOf]
  cases row with
  | vendorReset => exact if_pos rfl
  | vendorIdentify h => exact (if_neg h).trans (if_pos rfl)
  | _ => rfl

theorem isReading_of_row (row : RequestRow p t rq k) (q : SetupFields) : IsReading p (packetOf t rq q) (k q) := by
  cases row <;> exact ⟨rfl, rfl⟩

/-- The fields of the SETUP packet with first byte `b` and the three 16-bit values (R111, R112). -/
def setupFields (b : Byte) (wValue wIndex wLength : Word) : SetupFields :=
  { dirIn := b.getLsbD 7, recipient := b.extractLsb' 0 5, wValue := wValue, wIndex := wIndex, wLength := wLength }

theorem packet_eq_packetOf (b rq v0 v1 x0 x1 l0 l1 : Byte) :
    Image.packet [b, rq, v0, v1, x0, x1, l0, l1] =
      packetOf (b.extractLsb' 5 2) rq (setupFields b (le16 v0 v1) (le16 x0 x1) (le16 l0 l1)) := by
  simp only [packetOf, setupFields, loByte_le16, hiByte_le16, requestType_of_fields]

theorem decodeSetup_ok {bytes : List Byte} (h : decodeSetup p bytes = .ok i) :
    ∃ b rq v0 v1 x0 x1 l0 l1, bytes = [b, rq, v0, v1, x0, x1, l0, l1] := by
  unfold decodeSetup at h
  split at h
  · exact ⟨_, _, _, _, _, _, _, _, rfl⟩
  · cases h

theorem isReading_of_decodePacket {bytes : List Byte} (h : decode p (.packet bytes) = .ok i) :
    IsReading p (.packet bytes) i := by
  obtain ⟨b, rq, v0, v1, x0, x1, l0, l1, rfl⟩ := decodeSetup_ok h
  rw [packet_eq_packetOf] at h ⊢
  obtain ⟨k, row, rfl⟩ := decode_packetOf_row h
  exact isReading_of_row row _

end

/-! ### Commands -/

section
variable {p : Params} {i : Instr}

theorem encode_of_decodeHeader {id : BitVec 5} {mods : BitVec 3} {header : List Byte}
    (h : decodeHeader id mods header = .ok i) : encode p i = commandOf mods id header := by
  unfold decodeHeader at h
  split at h
  case h_1 hid | h_2 hid =>
    obtain ⟨-, rfl⟩ := header16_ok h
    rw [eq_ofNat_of_toNat_eq hid, encode]
  case h_3 hid | h_10 hid | h_13 hid =>
    obtain ⟨_, rfl, rfl⟩ := header1_ok h
    rw [eq_ofNat_of_toNat_eq hid, encode]
  case h_4 hid | h_12 hid | h_14 hid =>
    obtain ⟨rfl, rfl⟩ := header0_ok h
    rw [eq_ofNat_of_toNat_eq hid, encode]
  case h_5 hid =>
    obtain ⟨_, _, rfl, rfl⟩ := headerAddr_ok h
    rw [eq_ofNat_of_toNat_eq hid, encode, loByte_le16, hiByte_le16]
  case h_6 hid | h_8 hid | h_11 hid =>
    obtain ⟨_, _, _, _, rfl, rfl⟩ := headerAddrLen_ok h
    simp only [eq_ofNat_of_toNat_eq hid, encode, loByte_le16, hiByte_le16]
  case h_7 hid | h_9 hid =>
    obtain ⟨_, _, _, rfl, rfl⟩ := headerAddrByte_ok h
    rw [eq_ofNat_of_toNat_eq hid, encode, loByte_le16, hiByte_le16]
  case h_15 => cases h

theorem isReading_of_decodeCommand {bytes : List Byte} (h : decodeCommand bytes = .ok i) :
    IsReading p (.command bytes) i := by
  refine ⟨(decodeCommand_isCommand h).2, ?_⟩
  obtain ⟨c, header, rfl, hheader⟩ := decodeCommand_ok h
  rw [encode_of_decodeHeader hheader, commandOf, mkCommand_fields]

end

/-- Settles O2: each of the three formats has its reading lemma (R110). -/
theorem decodedImageIsTheEncoding : Obligations.DecodedImageIsTheEncoding := by
  intro p m i h
  cases m with
  | line l => exact isReading_of_decodeLine h
  | packet bytes => exact isReading_of_decodePacket h
  | command bytes => exact isReading_of_decodeCommand h

end Sys2Proof
end

section
/-! Decoding the encoding of an operation gives it back (30_encoding.md R110-R133), by the operations' own round trips. -/

namespace Sys2Proof

/-- Settles O1: every operation has its round trip in Laws/PerInstr.lean. -/
theorem decodeOfEncodeIsTheOperation : Obligations.DecodeOfEncodeIsTheOperation := by
  intro i
  cases i with
  | evSe0Exit => exact Laws.RoundTrip.evSe0Exit
  | evBusReset => exact Laws.RoundTrip.evBusReset
  | evIdle => exact Laws.RoundTrip.evIdle
  | evActivity => exact Laws.RoundTrip.evActivity
  | evError classes => exact Laws.RoundTrip.evError classes
  | evTrnSetup packet => exact Laws.RoundTrip.evTrnSetup packet
  | evTrnOut ep half data => exact Laws.RoundTrip.evTrnOut ep half data
  | evTrnIn ep half => exact Laws.RoundTrip.evTrnIn ep half
  | attach => exact Laws.RoundTrip.attach
  | acqRx => exact Laws.RoundTrip.acqRx
  | rxRead index => exact Laws.RoundTrip.rxRead index
  | rxTake count => exact Laws.RoundTrip.rxTake count
  | acqTx => exact Laws.RoundTrip.acqTx
  | txPut byte => exact Laws.RoundTrip.txPut byte
  | flush => exact Laws.RoundTrip.flush
  | isActive => exact Laws.RoundTrip.isActive
  | csEnter => exact Laws.RoundTrip.csEnter
  | csExit => exact Laws.RoundTrip.csExit
  | sleep => exact Laws.RoundTrip.sleep
  | resetExec => exact Laws.RoundTrip.resetExec
  | irq => exact Laws.RoundTrip.irq
  | watchdog => exact Laws.RoundTrip.watchdog
  | getStatus q => exact Laws.RoundTrip.getStatus q
  | setAddress q => exact Laws.RoundTrip.setAddress q
  | getDescriptor q => exact Laws.RoundTrip.getDescriptor q
  | getConfiguration q => exact Laws.RoundTrip.getConfiguration q
  | setConfiguration q => exact Laws.RoundTrip.setConfiguration q
  | getInterface q => exact Laws.RoundTrip.getInterface q
  | setInterface q => exact Laws.RoundTrip.setInterface q
  | sendEncapsulatedCommand q => exact Laws.RoundTrip.sendEncapsulatedCommand q
  | getEncapsulatedResponse q => exact Laws.RoundTrip.getEncapsulatedResponse q
  | setLineCoding q => exact Laws.RoundTrip.setLineCoding q
  | getLineCoding q => exact Laws.RoundTrip.getLineCoding q
  | setControlLineState q => exact Laws.RoundTrip.setControlLineState q
  | vendorReset q => exact Laws.RoundTrip.vendorReset q
  | vendorIdentify q => exact Laws.RoundTrip.vendorIdentify q
  | ping mods data => exact Laws.RoundTrip.ping mods data
  | unlock mods key => exact Laws.RoundTrip.unlock mods key
  | setMode mods mode => exact Laws.RoundTrip.setMode mods mode
  | getMode mods => exact Laws.RoundTrip.getMode mods
  | read mods addr => exact Laws.RoundTrip.read mods addr
  | readBurst mods addr len => exact Laws.RoundTrip.readBurst mods addr len
  | write mods addr data => exact Laws.RoundTrip.write mods addr data
  | writeBurst mods addr len => exact Laws.RoundTrip.writeBurst mods addr len
  | pollFlashData mods addr polarity => exact Laws.RoundTrip.pollFlashData mods addr polarity
  | setFlashWriteSequence mods n => exact Laws.RoundTrip.setFlashWriteSequence mods n
  | flashBurst mods addr len => exact Laws.RoundTrip.flashBurst mods addr len
  | diagnostics mods => exact Laws.RoundTrip.diagnostics mods
  | reset mods magic => exact Laws.RoundTrip.reset mods magic
  | identify mods => exact Laws.RoundTrip.identify mods

end Sys2Proof
end

section
/-! The direction and recipient bits of a SETUP packet (30_encoding.md R112; 41_control_transfer.md R202), and the words of
95_test_vectors.md. -/

namespace Sys2Proof

open Sys2Proof.Machine

/-- No request looks at its direction and recipient bits (R112). -/
theorem exec_request_of_direction {p : Params} {t : BitVec 2} {rq : Byte} {k : SetupFields → Instr}
    (row : RequestRow p t rq k) (q : SetupFields) (dirIn : Bit) (recipient : BitVec 5) (s : State) :
    exec (k { q with dirIn := dirIn, recipient := recipient }) s = exec (k q) s := by
  cases row <;> rfl

/-- Settles O5: both packets are decoded by the row of the same type bits and request code. -/
theorem directionAndRecipientBitsDoNotMatter : Obligations.DirectionAndRecipientBitsDoNotMatter := by
  intro p b c rest i htype h
  obtain ⟨_, rq, v0, v1, x0, x1, l0, l1, hbytes⟩ := decodeSetup_ok h
  obtain ⟨rfl, rfl⟩ := List.cons.inj hbytes
  obtain ⟨k, row, rfl⟩ := decode_packetOf_row ((congrArg (decode p) (packet_eq_packetOf ..)).symm.trans h)
  have hc := decode_packetOf_of_row row (setupFields c (le16 v0 v1) (le16 x0 x1) (le16 l0 l1))
  rw [htype, ← packet_eq_packetOf] at hc
  exact ⟨_, hc, exec_request_of_direction row (setupFields b _ _ _) _ _⟩

/-- Settles O3: the decoders are run on the vectors of V30-W, V30-S and V30-C. -/
theorem specWordsDecodeAsListed : Obligations.SpecWordsDecodeAsListed :=
  ⟨rfl, rfl, rfl, rfl, rfl, rfl, rfl, rfl⟩

end Sys2Proof
end

section
/-! The operation words that decode with some payload, for each group in terms of the numbers of the word's fields
(30_encoding.md R118-R123); and the payload that each kind takes (R131). -/

namespace Sys2Proof

open Sys2Proof.Statements

/-! ### The numbers of the fields -/

theorem toNat_wordGroup (w : Word) : (wordGroup w).toNat = w.toNat / 4096 := by
  rw [wordGroup, BitVec.extractLsb'_toNat, Nat.shiftRight_eq_div_pow]
  omega

theorem toNat_wordKind (w : Word) : (wordKind w).toNat = w.toNat / 256 % 16 := by
  rw [wordKind, BitVec.extractLsb'_toNat, Nat.shiftRight_eq_div_pow]

theorem toNat_wordArg (w : Word) : (wordArg w).toNat = w.toNat % 256 := by
  rw [wordArg, BitVec.extractLsb'_toNat, Nat.shiftRight_zero]

theorem extractLsb'_eq_zero_iff {w : Nat} (x : BitVec w) (start len : Nat) :
    x.extractLsb' start len = 0#len ↔ x.toNat / 2 ^ start % 2 ^ len = 0 := by
  rw [← BitVec.toNat_inj, BitVec.extractLsb'_toNat, Nat.shiftRight_eq_div_pow, BitVec.toNat_ofNat, Nat.zero_mod]

/-! ### The refusals of each group, as `refusedWord` lists them -/

/-- An argument of EV_TRN_OUT or EV_TRN_IN (R119, R123; log 15). -/
def RefusedTrnArg (p : Params) (arg : Nat) : Prop :=
  arg / 16 ∉ [0, p.epNotif.toNat, p.epBulk.toNat] ∨ arg / 2 % 8 ≠ 0 ∨ (arg / 16 = 0 ∧ arg % 2 = 1)

/-- Group 0x0 (R119). -/
def RefusedEvent (p : Params) (kind arg : Nat) : Prop :=
  kind = 0 ∨ 9 ≤ kind ∨ (kind ∈ [1, 2, 3, 4, 6] ∧ arg ≠ 0) ∨ (kind = 5 ∧ (arg = 0 ∨ 64 ≤ arg)) ∨
    (kind ∈ [7, 8] ∧ RefusedTrnArg p arg)

/-- Group 0x1 (R121). -/
def RefusedFirmware (kind arg : Nat) : Prop :=
  12 ≤ kind ∨ (kind ∉ [2, 3, 5] ∧ arg ≠ 0) ∨ (kind = 2 ∧ 64 ≤ arg) ∨ (kind = 3 ∧ 65 ≤ arg)

/-- Group 0x2 (R121). -/
def RefusedSched (kind arg : Nat) : Prop := 2 ≤ kind ∨ arg ≠ 0

theorem refusedWord_iff (p : Params) (w : Word) :
    refusedWord p w ↔
      3 ≤ (wordGroup w).toNat ∨
      ((wordGroup w).toNat = 0 ∧ RefusedEvent p (wordKind w).toNat (wordArg w).toNat) ∨
      ((wordGroup w).toNat = 1 ∧ RefusedFirmware (wordKind w).toNat (wordArg w).toNat) ∨
      ((wordGroup w).toNat = 2 ∧ RefusedSched (wordKind w).toNat (wordArg w).toNat) := by
  rw [toNat_wordGroup, toNat_wordKind, toNat_wordArg]
  rfl

/-- The payload that a kind takes: 8 bytes of a SETUP packet, the counted bytes of an OUT packet, and nothing for the
others (R131). -/
def LinePayload (group kind : Nat) (payload : List Byte) : Prop :=
  match group, kind with
  | 0, 6 => payload.length = 8
  | 0, 7 => ∃ n data, payload = n :: data ∧ n.toNat = data.length ∧ data.length ≤ 64
  | _, _ => payload = []

theorem exists_linePayload (group kind : Nat) : ∃ payload, LinePayload group kind payload := by
  unfold LinePayload
  split
  · exact ⟨List.replicate 8 0#8, rfl⟩
  · exact ⟨[0#8], 0#8, [], rfl, rfl, Nat.zero_le 64⟩
  · exact ⟨[], rfl⟩

/-! ### Which arguments and payloads decode -/

section
variable {p : Params} {arg : Byte} {payload : List Byte}

theorem exists_decodeBare_iff {j : Instr} :
    (∃ i, decodeBare arg payload j = .ok i) ↔ arg.toNat = 0 ∧ payload = [] := by
  simp only [decodeBare_eq_ok_iff, exists_and_left, exists_eq, and_true, ← BitVec.toNat_inj, BitVec.toNat_ofNat,
    Nat.zero_mod]

theorem exists_decodeNoPayload_iff {j : Instr} : (∃ i, decodeNoPayload payload j = .ok i) ↔ payload = [] := by
  simp only [decodeNoPayload_eq_ok_iff, exists_and_left, exists_eq, and_true]

theorem exists_decodeCounted_iff {k : List Byte → Instr} :
    (∃ i, decodeCounted payload (fun data => .ok (k data)) = .ok i) ↔ LinePayload 0 7 payload := by
  simp only [decodeCounted_eq_ok_iff, LinePayload]
  constructor
  · rintro ⟨_, n, data, hpayload, hcount, hlength, -⟩
    exact ⟨n, data, hpayload, hcount, hlength⟩
  · rintro ⟨n, data, hpayload, hcount, hlength⟩
    exact ⟨_, n, data, hpayload, hcount, hlength, rfl⟩

/-- Half 1 of endpoint 0 is the only half refused (R119; log 15). -/
theorem exists_endpoint_iff {n : BitVec 4} {half : Bit} :
    (∃ ep, p.endpoint n = some ep ∧ halfLegal ep half = true) ↔
      n.toNat ∈ [0, p.epNotif.toNat, p.epBulk.toNat] ∧ ¬ (n.toNat = 0 ∧ half = true) := by
  have hzero : n.toNat = 0 ↔ n = 0#4 := BitVec.toNat_inj (y := 0#4)
  simp only [List.mem_cons, List.not_mem_nil, or_false, BitVec.toNat_inj, hzero, Params.endpoint]
  split_ifs with h0 hnotif hbulk
  · simp [halfLegal, h0]
  · simp [halfLegal, h0, ← hnotif]
  · simp [halfLegal, h0, ← hbulk]
  · simp [h0, hnotif, hbulk]

theorem exists_decodeTrnArg_iff {k : Endpoint → Bit → Decoded} {P : Prop}
    (hk : ∀ ep half, (∃ i, k ep half = .ok i) ↔ P) :
    (∃ i, decodeTrnArg p arg k = .ok i) ↔ ¬ RefusedTrnArg p arg.toNat ∧ P := by
  have hfields : (∃ i, decodeTrnArg p arg k = .ok i) ↔
      (∃ ep, p.endpoint (arg.extractLsb' 4 4) = some ep ∧ halfLegal ep (arg.getLsbD 0) = true) ∧
        arg.extractLsb' 1 3 = 0#3 ∧ P := by
    simp only [decodeTrnArg_eq_ok_iff]
    constructor
    · rintro ⟨i, ep, hep, hzero, hhalf, hi⟩
      exact ⟨⟨ep, hep, hhalf⟩, hzero, (hk ep _).mp ⟨i, hi⟩⟩
    · rintro ⟨⟨ep, hep, hhalf⟩, hzero, hP⟩
      obtain ⟨i, hi⟩ := (hk ep _).mpr hP
      exact ⟨i, ep, hep, hzero, hhalf, hi⟩
  have hnumber : (arg.extractLsb' 4 4).toNat = arg.toNat / 16 := by
    rw [BitVec.extractLsb'_toNat, Nat.shiftRight_eq_div_pow]
    omega
  have hhalf : arg.getLsbD 0 = true ↔ arg.toNat % 2 = 1 := by
    rw [BitVec.getLsbD, Nat.testBit_zero, decide_eq_true_iff]
  rw [hfields, exists_endpoint_iff, extractLsb'_eq_zero_iff, hnumber, hhalf, RefusedTrnArg]
  tauto

/-! ### The three groups -/

theorem exists_decodeEvent_iff {kind : BitVec 4} :
    (∃ i, decodeEvent p kind arg payload = .ok i) ↔
      ¬ RefusedEvent p kind.toNat arg.toNat ∧ LinePayload 0 kind.toNat payload := by
  unfold decodeEvent
  generalize kind.toNat = n
  split
  case h_1 | h_2 | h_3 | h_4 => simp [exists_decodeBare_iff, RefusedEvent, LinePayload]
  case h_5 =>
    have hclasses : ¬ (arg.toNat = 0 ∨ 64 ≤ arg.toNat) ↔
        arg.extractLsb' 6 2 = 0#2 ∧ ¬ arg.extractLsb' 0 6 = 0#6 := by
      simp only [extractLsb'_eq_zero_iff]
      omega
    simp only [RefusedEvent, LinePayload]
    split_ifs with hhigh hnone
    · simp [hclasses, hhigh]
    · simp [hclasses, hnone]
    · simp [hclasses, not_not.mp hhigh, hnone, exists_decodeNoPayload_iff]
  case h_6 =>
    have harg : arg.toNat = 0 ↔ arg.extractLsb' 4 4 = 0#4 ∧ arg.extractLsb' 0 4 = 0#4 := by
      simp only [extractLsb'_eq_zero_iff]
      omega
    simp only [RefusedEvent, LinePayload, ne_eq, harg, ite_not]
    split_ifs with hep hlow hlength
    · simp [hep, hlow, hlength]
    · simp [hlength]
    · simp [hlow]
    · simp [hep]
  case h_7 =>
    rw [exists_decodeTrnArg_iff fun _ _ => exists_decodeCounted_iff]
    simp [RefusedEvent]
  case h_8 =>
    rw [exists_decodeTrnArg_iff fun _ _ => exists_decodeNoPayload_iff]
    simp [RefusedEvent, LinePayload]
  case h_9 =>
    have hreserved : n = 0 ∨ 9 ≤ n := by
      simp only [imp_false] at *
      omega
    simp [RefusedEvent, ← or_assoc, hreserved]

theorem exists_decodeFirmware_iff {kind : BitVec 4} :
    (∃ i, decodeFirmware kind arg payload = .ok i) ↔
      ¬ RefusedFirmware kind.toNat arg.toNat ∧ LinePayload 1 kind.toNat payload := by
  unfold decodeFirmware
  generalize kind.toNat = n
  split
  case h_3 =>
    split_ifs with hindex
    · simp [exists_decodeNoPayload_iff, RefusedFirmware, LinePayload, Nat.lt_succ_of_le hindex]
    · simp [RefusedFirmware, Nat.succ_le_of_lt (not_le.mp hindex)]
  case h_4 =>
    split_ifs with hcount
    · simp [exists_decodeNoPayload_iff, RefusedFirmware, LinePayload, Nat.lt_succ_of_le hcount]
    · simp [RefusedFirmware, Nat.succ_le_of_lt (not_le.mp hcount)]
  case h_6 => simp [exists_decodeNoPayload_iff, RefusedFirmware, LinePayload]
  case h_13 =>
    have hreserved : 12 ≤ n := by
      simp only [imp_false] at *
      omega
    simp [RefusedFirmware, hreserved]
  all_goals simp [exists_decodeBare_iff, RefusedFirmware, LinePayload]

theorem exists_decodeSched_iff {kind : BitVec 4} :
    (∃ i, decodeSched kind arg payload = .ok i) ↔
      ¬ RefusedSched kind.toNat arg.toNat ∧ LinePayload 2 kind.toNat payload := by
  unfold decodeSched
  generalize kind.toNat = n
  split
  case h_1 | h_2 => simp [exists_decodeBare_iff, RefusedSched, LinePayload]
  case h_3 =>
    have hreserved : 2 ≤ n := by
      simp only [imp_false] at *
      omega
    simp [RefusedSched, hreserved]

/-- A line decodes just when its word is not refused and its payload is the one of its kind (R123, R131; log 16). -/
theorem exists_decodeLine_iff {w : Word} :
    (∃ i, decodeLine p ⟨w, payload⟩ = .ok i) ↔
      ¬ refusedWord p w ∧ LinePayload (wordGroup w).toNat (wordKind w).toNat payload := by
  rw [refusedWord_iff, decodeLine]
  generalize (wordGroup w).toNat = g
  split
  case h_1 => simp [exists_decodeEvent_iff]
  case h_2 => simp [exists_decodeFirmware_iff]
  case h_3 => simp [exists_decodeSched_iff]
  case h_4 =>
    have hreserved : 3 ≤ g := by
      simp only [imp_false] at *
      omega
    simp [hreserved]

end

theorem exists_reject_of_not_ok {d : Decoded} (h : ¬ ∃ i, d = .ok i) : ∃ why, d = .reject why := by
  cases d with
  | ok i => exact absurd ⟨i, rfl⟩ h
  | reject why => exact ⟨why, rfl⟩

/-- Settles O4: a word that is not refused decodes with the payload of its kind. -/
theorem refusedWordsAreThoseOfTheTables : Obligations.RefusedWordsAreThoseOfTheTables := by
  intro p w
  refine ⟨fun hrefused payload => exists_reject_of_not_ok fun hok => ?_, fun hlegal => ?_⟩
  · exact (exists_decodeLine_iff.mp hok).1 hrefused
  · obtain ⟨payload, hpayload⟩ := exists_linePayload (wordGroup w).toNat (wordKind w).toNat
    exact ⟨payload, exists_decodeLine_iff.mpr ⟨hlegal, hpayload⟩⟩

end Sys2Proof
end

section
/-! The engine's acts (40_device_events.md R160-R171): what an enabled act makes of the state, and when an act is not enabled
(R162). -/

namespace Sys2Proof.Machine

open Sys2Proof.Statements

/-! ### What the acts share -/

theorem State.noteActivity_eq (s : State) :
    s.noteActivity =
      { s with irq := { s.irq with
          pending := { s.irq.pending with activity := s.irq.pending.activity || s.dev.suspended } } } := by
  unfold State.noteActivity
  split
  · rename_i hsusp
    rw [hsusp, Bool.or_true]
    rfl
  · rename_i hsusp
    rw [Bool.eq_false_iff.mpr hsusp, Bool.or_false]

/-- The writes of the bytes of a packet are one write of BUF. -/
theorem State.writeBufs_eq (s : State) (d : DescId) (i : Nat) (bs : List Byte) :
    s.writeBufs d i bs = { s with buf := (s.writeBufs d i bs).buf } := by
  induction bs generalizing s i with
  | nil => rfl
  | cons b bs ih => exact ih (s.writeBuf d i b) (i + 1)

theorem BdTable.put_put (t : BdTable) (d : DescId) (v w : Bd) : (t.put d v).put d w = t.put d w := by
  rcases d with _ | _ | _ | h | h <;> (try cases h) <;> rfl

/-- A completed SETUP or OUT transaction (R163): bytes, count, ownership, completion. -/
theorem State.receive_record (s : State) (d : DescId) (bs : List Byte) (r : Completion) :
    s.receive d bs r =
      { s with
        buf := (s.writeBufs d 0 bs).buf
        bd := s.bd.put d { s.desc d with own := .firmware, count := BitVec.ofNat 10 bs.length }
        irq := { s.irq with trn := s.irq.trn ++ [r] } } := by
  have hdesc : (s.stored d bs).desc d = { s.desc d with count := BitVec.ofNat 10 bs.length } :=
    (s.stored_desc d d bs).trans (if_pos rfl)
  have hbd : (s.stored d bs).bd.put d { (s.stored d bs).desc d with own := .firmware } =
      s.bd.put d { s.desc d with own := .firmware, count := BitVec.ofNat 10 bs.length } := by
    rw [hdesc]
    simp [State.stored, State.setDesc, BdTable.put_put]
  rw [State.receive_eq, State.complete, State.setDesc, hbd, State.stored, State.writeBufs_eq]
  rfl

/-- A received packet stands in its buffer, whatever else the step writes (R81). -/
theorem storedAt_of_buf {s t : State} {d : DescId} {bs : List Byte} (hbuf : t.buf = (s.writeBufs d 0 bs).buf)
    (hepoch : t.epoch = s.epoch) (hlen : bs.length ≤ 64) : storedAt s t d bs := by
  intro e i hi
  have hread : t.readBuf e i = (s.writeBufs d 0 bs).readBuf e i := by
    simp [State.readBuf, hbuf, hepoch]
  rw [hread, State.readBuf_writeBufs bs s d e 0 i (by omega) hi]
  simp [eq_comm]

theorem State.readBufs_zero (s : State) (d : DescId) (n : Nat) :
    s.readBufs d 0 n = (List.range n).map fun k => s.readBuf d k := by
  simp [State.readBufs]

/-! ### Enabling (R162) -/

section
variable {s : State} {d : DescId}

theorem whenEnabled_of_enabled {e : Bool} (h : e = true) (r : Result) : whenEnabled e s r = r := if_pos h

theorem whenEnabled_of_disabled {e : Bool} (h : e = false) (r : Result) :
    whenEnabled e s r = .next { s with ret := .notEnabled } := by
  subst h
  rfl

theorem transactionsOn_iff : s.transactionsOn = true ↔ s.dev.state = .default ∧ s.irq.pending.reset = false := by
  simp [State.transactionsOn]

theorem completable_iff :
    s.completable d = true ↔
      (s.dev.state = .default ∧ s.irq.pending.reset = false) ∧ (s.desc d).own = .engine ∧ (s.desc d).stall = false := by
  simp [State.completable, transactionsOn_iff, State.engineOwns, and_assoc]

theorem transactionsOn_eq_false (h : s.dev.state ≠ .default ∨ s.irq.pending.reset = true) : s.transactionsOn = false := by
  rw [← Bool.not_eq_true, transactionsOn_iff]
  rintro ⟨hstate, hreset⟩
  simp [hstate, hreset] at h

theorem completable_of_transactionsOff (h : s.transactionsOn = false) : s.completable d = false := by
  simp [State.completable, h]

theorem completable_of_notArmed (h : (s.desc d).own = .firmware ∨ (s.desc d).stall = true) :
    s.completable d = false := by
  rw [← Bool.not_eq_true, completable_iff]
  rintro ⟨-, hown, hstall⟩
  simp [hown, hstall] at h

/-! ### Acts that are not enabled (R162; log 2) -/

theorem exec_evTrnSetup_notEnabled (packet : List Byte)
    (h : s.transactionsOn = false ∨ s.bd.ep0Out.own = .firmware) :
    exec (.evTrnSetup packet) s = .next { s with ret := .notEnabled } := by
  refine whenEnabled_of_disabled ?_ _
  rcases h with h | h
  · simp [h]
  · simp [State.engineOwns, State.desc, BdTable.get, h]

theorem exec_evTrnOut_ep0_notEnabled (half : Bit) {data : List Byte}
    (h : s.completable .ep0Out = false ∨ s.cfg.ep0Size.bytes < data.length) :
    exec (.evTrnOut .ep0 half data) s = .next { s with ret := .notEnabled } := by
  refine whenEnabled_of_disabled ?_ _
  rcases h with h | h
  · simp [h]
  · simp [Nat.not_le.mpr h]

theorem exec_evTrnOut_bulk_notEnabled {half : Bit} {data : List Byte}
    (h : s.completable (.bulkOut half) = false ∨ half ≠ s.sie.ppbiOut ∨ 64 < data.length) :
    exec (.evTrnOut .bulk half data) s = .next { s with ret := .notEnabled } := by
  refine whenEnabled_of_disabled ?_ _
  rcases h with h | h | h
  · simp [h]
  · simp [beq_eq_false_iff_ne.mpr h]
  · simp [Nat.not_le.mpr h]

theorem exec_evTrnIn_ep0_notEnabled (half : Bit) (h : s.completable .ep0In = false) :
    exec (.evTrnIn .ep0 half) s = .next { s with ret := .notEnabled } :=
  whenEnabled_of_disabled (by simp [h]) _

theorem exec_evTrnIn_bulk_notEnabled {half : Bit} (h : s.completable (.bulkIn half) = false ∨ half ≠ s.sie.ppbiIn) :
    exec (.evTrnIn .bulk half) s = .next { s with ret := .notEnabled } := by
  refine whenEnabled_of_disabled ?_ _
  rcases h with h | h
  · simp [h]
  · simp [beq_eq_false_iff_ne.mpr h]

theorem exec_evTrnOut_transactionsOff (h : s.transactionsOn = false) (ep : Endpoint) (half : Bit) (data : List Byte) :
    exec (.evTrnOut ep half data) s = .next { s with ret := .notEnabled } := by
  cases ep with
  | ep0 => exact exec_evTrnOut_ep0_notEnabled half (.inl (completable_of_transactionsOff h))
  | notif => rfl
  | bulk => exact exec_evTrnOut_bulk_notEnabled (.inl (completable_of_transactionsOff h))

theorem exec_evTrnIn_transactionsOff (h : s.transactionsOn = false) (ep : Endpoint) (half : Bit) :
    exec (.evTrnIn ep half) s = .next { s with ret := .notEnabled } := by
  cases ep with
  | ep0 => exact exec_evTrnIn_ep0_notEnabled half (completable_of_transactionsOff h)
  | notif => rfl
  | bulk => exact exec_evTrnIn_bulk_notEnabled (.inl (completable_of_transactionsOff h))

/-- IRQ with the interrupt disabled, the device detached or no source taken (R384). -/
theorem exec_irq_notEnabled (h : s.irq.enable = false ∨ s.dev.state = .detached ∨ ∀ src, ¬ taken s src) :
    exec .irq s = .next { s with ret := .notEnabled } := by
  show takeInterrupt s (handleSource s) = _
  unfold takeInterrupt
  rcases h with h | h | h
  · rw [h]
    rfl
  · simp only [h, ne_eq, not_true_eq_false, decide_false, Bool.and_false]
    rfl
  · have hnone : s.interruptSource = none := by
      simp only [taken_iff, Bool.not_eq_true] at h
      simp [State.interruptSource, h]
    rw [hnone]
    exact ite_self _

/-- The acts whose only condition is on the connection (R162), on a detached device. -/
theorem exec_detached_notEnabled (h : s.dev.state = .detached) :
    ∀ i ∈ [Instr.evSe0Exit, .evBusReset, .evIdle, .evActivity], exec i s = .next { s with ret := .notEnabled } := by
  simp only [List.forall_mem_cons, List.not_mem_nil, false_imp_iff, implies_true, and_true]
  have hoff : s.engineOn = false := by simp [State.engineOn, h]
  refine ⟨whenEnabled_of_disabled ?_ _, whenEnabled_of_disabled hoff _, whenEnabled_of_disabled ?_ _,
    whenEnabled_of_disabled ?_ _⟩
  · simp [h]
  · simp [hoff]
  · simp [hoff]

end

/-- Settles O12: each clause is the enabling condition of its act, of which one conjunct fails. -/
theorem stepsThatAreNotEnabledChangeNothing : Obligations.StepsThatAreNotEnabledChangeNothing := by
  intro s
  refine ⟨exec_irq_notEnabled, exec_detached_notEnabled, fun hdetached c => ?_, fun hsusp => ?_, fun h => ?_,
    fun ep half data packet h => ?_, fun packet hown => exec_evTrnSetup_notEnabled packet (.inr hown),
    fun half data h => ?_, fun half h => exec_evTrnIn_ep0_notEnabled half (completable_of_notArmed h),
    fun half data h => ?_, fun half h => ?_⟩
  · exact whenEnabled_of_disabled (by simp [State.engineOn, hdetached]) _
  · exact whenEnabled_of_disabled (by simp [hsusp]) _
  · refine whenEnabled_of_disabled ?_ _
    rcases h with h | h <;> simp [h]
  · by_cases hnotif : ep = .notif
    · subst hnotif
      exact ⟨rfl, rfl, fun hne => absurd rfl hne⟩
    · have hoff : s.transactionsOn = false := transactionsOn_eq_false (by simpa [hnotif] using h)
      exact ⟨exec_evTrnOut_transactionsOff hoff ep half data, exec_evTrnIn_transactionsOff hoff ep half,
        fun _ => exec_evTrnSetup_notEnabled packet (.inl hoff)⟩
  · refine exec_evTrnOut_ep0_notEnabled half ?_
    rcases h with h | h | h
    · exact .inl (completable_of_notArmed (.inl h))
    · exact .inl (completable_of_notArmed (.inr h))
    · exact .inr h
  · refine exec_evTrnOut_bulk_notEnabled ?_
    rcases h with h | h | h | h
    · exact .inr (.inl h)
    · exact .inl (completable_of_notArmed (.inl h))
    · exact .inl (completable_of_notArmed (.inr h))
    · exact .inr (.inr h)
  · refine exec_evTrnIn_bulk_notEnabled ?_
    rcases h with h | h
    · exact .inr h
    · exact .inl (completable_of_notArmed h)

/-! ### Acts without a packet (R164-R171) -/

/-- Settles O10: the word of R121 is that of the act, and the act's one condition is the state ATTACHED. -/
theorem se0ExitPowersAnAttachedDevice : Obligations.Se0ExitPowersAnAttachedDevice := by
  intro s
  refine ⟨rfl, fun hattached => ?_, fun hother => ⟨.notEnabled, whenEnabled_of_disabled (by simp [hother]) _⟩⟩
  exact whenEnabled_of_enabled (by simp [hattached]) _

theorem exec_evActivity {s : State} (hattached : s.dev.state ≠ .detached) (hsusp : s.dev.suspended = true)
    (hidle : s.irq.pending.activity = false) :
    exec .evActivity s =
      .next { s with irq := { s.irq with pending := { s.irq.pending with activity := true } }, ret := .none } :=
  whenEnabled_of_enabled (by simp [(engineOn_iff s).mpr hattached, hsusp, hidle]) _

/-- Settles O11: each act's own update, and R161's ACTIVITY where the act is not EV_ACTIVITY itself. -/
theorem pendingActsSetTheirSource : Obligations.PendingActsSetTheirSource := by
  intro s hattached
  have hon : s.engineOn = true := (engineOn_iff s).mpr hattached
  refine ⟨?_, fun hsusp => ?_, exec_evActivity hattached, fun c hc => ?_⟩
  · refine (whenEnabled_of_enabled hon _).trans ?_
    rw [State.noteActivity_eq]
    rfl
  · refine (whenEnabled_of_enabled (by simp [hon, hsusp]) _).trans ?_
    rw [State.noteActivity, if_neg (by simp [hsusp])]
    rfl
  · refine (whenEnabled_of_enabled (by simp [hon, hc]) _).trans ?_
    rw [State.noteActivity_eq]
    rfl

/-! ### Transactions (R163) -/

/-- Settles O13: the enabling of a SETUP asks neither for the stall nor for the toggle of the descriptor (R162). -/
theorem setupActStoresItsPacket : Obligations.SetupActStoresItsPacket := by
  intro s packet hlen hstate hreset hown
  have henabled : (s.transactionsOn && s.engineOwns .ep0Out && packet.length == 8) = true := by
    simp [transactionsOn_iff.mpr ⟨hstate, hreset⟩, State.engineOwns, State.desc, BdTable.get, hown, hlen]
  refine ⟨_, whenEnabled_of_enabled henabled _, ?_, ?_⟩
  · rw [State.noteActivity_eq, State.receive_record, hlen]
    rfl
  · exact storedAt_of_buf (by simp [State.receive_record]) (by simp) (by omega)

/-- Settles O14: an OUT transaction is a reception like that of a SETUP; on the bulk endpoint the pointer moves too. -/
theorem outActsStoreTheirBytes : Obligations.OutActsStoreTheirBytes := by
  intro s data hstate hreset
  refine ⟨fun hown hstall hlen => ?_, fun half hhalf hown hstall hlen => ?_⟩
  · have hready : s.completable .ep0Out = true := completable_iff.mpr ⟨⟨hstate, hreset⟩, hown, hstall⟩
    refine ⟨_, whenEnabled_of_enabled (by simp [hready, hlen]) _, ?_, ?_⟩
    · rw [State.noteActivity_eq, State.receive_record]
      rfl
    · exact storedAt_of_buf (by simp [State.receive_record]) (by simp) (hlen.trans (ep0Size_bytes_le _))
  · subst hhalf
    have hready : s.completable (.bulkOut s.sie.ppbiOut) = true :=
      completable_iff.mpr ⟨⟨hstate, hreset⟩, hown, hstall⟩
    refine ⟨_, whenEnabled_of_enabled (by simp [hready, hlen]) _, ?_, ?_⟩
    · rw [State.noteActivity_eq, State.receive_record]
      rfl
    · exact storedAt_of_buf (by simp [State.receive_record]) (by simp) hlen

/-- Settles O15: the packet is read through the descriptor as the engine finds it, within its buffer (R81). -/
theorem inActsPutThePacketOnTheWire : Obligations.InActsPutThePacketOnTheWire := by
  intro s hstate hreset
  refine ⟨fun hown hstall hcount => ?_, fun half hhalf hown hstall hcount => ?_⟩
  · have hready : s.completable .ep0In = true := completable_iff.mpr ⟨⟨hstate, hreset⟩, hown, hstall⟩
    have hfits : (s.desc .ep0In).count.toNat ≤ capacity s.cfg .ep0In := hcount
    refine (whenEnabled_of_enabled (by simp [hready]) _).trans ((withinBuffer_of_fits hfits).trans ?_)
    rw [State.noteActivity_eq, State.transmit, State.wirePacket, State.readBufs_zero]
    rfl
  · subst hhalf
    have hready : s.completable (.bulkIn s.sie.ppbiIn) = true :=
      completable_iff.mpr ⟨⟨hstate, hreset⟩, hown, hstall⟩
    refine (whenEnabled_of_enabled (by simp [hready]) _).trans ((withinBuffer_of_fits hcount).trans ?_)
    rw [State.noteActivity_eq, State.transmit, State.wirePacket, State.readBufs_zero]
    rfl

end Sys2Proof.Machine
end

section
/-! The interrupt step of each source but RESET, as the next state it gives (40_device_events.md R169-R172; 42_bulk_pipe.md
R290, R291). -/

namespace Sys2Proof.Machine

open Sys2Proof.Statements

/-! ### Suspend and resume (R169, R170) -/

theorem exec_irq_idle {s : State} (h : irqTakes s .idle) :
    exec .irq s =
      .next { s with
        dev := { s.dev with clock := .lowPower, suspended := true }
        irq := { s.irq with
          mask := 0x04#8, savedMask := s.irq.mask
          pending := { s.irq.pending with activity := false, idle := false } }
        ret := .none } := by
  rw [exec_irq_of_irqTakes h]
  rfl

theorem exec_irq_activity {s : State} (h : irqTakes s .activity) :
    exec .irq s =
      .next { s with
        dev := if s.dev.suspended then { s.dev with clock := .normal, suspended := false } else s.dev
        irq := { s.irq with
          mask := if s.dev.suspended then s.irq.savedMask &&& 0x7F#8 else s.irq.mask
          pending := { s.irq.pending with activity := false } }
        main := { s.main with asleep := false }
        ret := .none } := by
  rw [exec_irq_of_irqTakes h]
  show handleActivity s = _
  unfold handleActivity
  by_cases hsusp : s.dev.suspended = true
  · simp only [hsusp, if_true]
    rfl
  · simp only [hsusp]
    rfl

/-- Settles O17. -/
theorem idleStepSuspendsAndActivityStepResumes : Obligations.IdleStepSuspendsAndActivityStepResumes :=
  fun _ => ⟨exec_irq_idle, exec_irq_activity⟩

theorem and_0x7F_of_bit7_clear {v : BitVec 8} (h : v.getLsbD 7 = false) : v &&& 0x7F#8 = v := by
  revert v
  decide

/-- Settles O59: the IDLE step leaves ACTIVITY as the one source armed, so the act that R170 enables is the one that the
next interrupt step takes, and what that step restores is what the IDLE step saved. -/
theorem suspendAndResumeRestoreTheBlock : Obligations.SuspendAndResumeRestoreTheBlock := by
  intro s hidle hsusp hclock hawake hbit
  obtain ⟨henable, hattached, -, -⟩ := id hidle
  refine ⟨_, _, exec_irq_idle hidle, exec_evActivity hattached rfl rfl, ?_⟩
  refine Eq.trans (exec_irq_activity ?_) ?_
  · have harmed : (0x04#8).getLsbD 2 = true := by decide
    exact ⟨henable, hattached, ⟨rfl, harmed⟩, trivial⟩
  have hdev : { s.dev with clock := .normal, suspended := false } = s.dev := by rw [← hclock, ← hsusp]
  have hmain : { s.main with asleep := false } = s.main := by rw [← hawake]
  have hmask : s.irq.mask &&& 0x7F#8 = s.irq.mask := and_0x7F_of_bit7_clear hbit
  show Host.Outcome.next { s with
    dev := { s.dev with clock := .normal, suspended := false }
    irq := { s.irq with mask := s.irq.mask &&& 0x7F#8, savedMask := s.irq.mask, pending := _ }
    main := { s.main with asleep := false }
    ret := .none } = _
  rw [hdev, hmain, hmask]

/-! ### Errors (R171) -/

/-- One class of the ERROR step, at, below or above its maximum (log 7, 25). -/
theorem bumpErr_counts (max : Nat) (raised drawMax : Bool) (e : ErrStat) :
    (raised = false → bumpErr max raised drawMax e = e) ∧
    (raised = true →
      (bumpErr max raised drawMax e).sticky = true ∧
      (e.count < max → (bumpErr max raised drawMax e).count = e.count + 1) ∧
      (max ≤ e.count →
        (bumpErr max raised drawMax e).count = 0 ∨ (bumpErr max raised drawMax e).count = max)) := by
  refine ⟨?_, ?_⟩
  · rintro rfl
    rfl
  · rintro rfl
    refine ⟨rfl, fun hbelow => if_pos hbelow, fun hat => ?_⟩
    have hcount : (bumpErr max true drawMax e).count = if drawMax then max else 0 := if_neg (Nat.not_lt.mpr hat)
    cases drawMax with
    | false => exact .inl hcount
    | true => exact .inr hcount

/-- Settles O18: class k of the record is bumped by bit k of the pending classes (R122). -/
theorem errorStepCountsEachPendingClass : Obligations.ErrorStepCountsEachPendingClass := by
  intro s h
  refine ⟨bumpDiag (errMax s.cfg) s.irq.errBits s.draws s.diag, ?_, rfl, rfl, rfl, ?_⟩
  · rw [exec_irq_of_irqTakes h]
    rfl
  · simp only [List.forall_mem_cons, List.not_mem_nil, false_imp_iff, implies_true, and_true]
    exact ⟨bumpErr_counts _ _ _ _, bumpErr_counts _ _ _ _, bumpErr_counts _ _ _ _, bumpErr_counts _ _ _ _,
      bumpErr_counts _ _ _ _, bumpErr_counts _ _ _ _⟩

/-! ### Completions (R172) -/

theorem exec_irq_completion {s : State} {e : Completion} {rest : List Completion} (h : irqTakes s .trn)
    (htrn : s.irq.trn = e :: rest) :
    exec .irq s = handleCompletion e { s with irq := { s.irq with trn := rest } } := by
  rw [exec_irq_of_irqTakes h]
  show handleTrn s = _
  unfold handleTrn
  rw [htrn]
  rfl

/-- Settles O19: the tests of R290 and R291, in their order. -/
theorem bulkCompletionsFreeTheExpectedHalf : Obligations.BulkCompletionsFreeTheExpectedHalf := by
  intro s half rest h
  refine ⟨fun htrn => ?_, fun htrn => ?_⟩
  · have hrun : exec .irq s = bulkOutComplete half { s with irq := { s.irq with trn := rest } } :=
      exec_irq_completion h htrn
    rw [hrun, bulkOutComplete]
    refine ⟨fun harmed heng hbusy => ?_, fun harmed => ?_, fun harmed heng => ?_, fun harmed heng hfree => ?_⟩
    · subst heng
      rw [if_neg (by simp [harmed]), if_neg (by simp), if_neg (by simp [hbusy])]
      rfl
    · rw [if_pos (by simp [harmed])]
    · rw [if_neg (by simp [harmed]), if_pos heng]
    · subst heng
      rw [if_neg (by simp [harmed]), if_neg (by simp), if_pos (by simp [hfree])]
  · have hrun : exec .irq s = bulkInComplete half { s with irq := { s.irq with trn := rest } } :=
      exec_irq_completion h htrn
    rw [hrun, bulkInComplete]
    refine ⟨fun harmed heng hbusy => ?_, fun harmed => ?_, fun harmed heng => ?_, fun harmed heng hfree => ?_⟩
    · subst heng
      rw [if_neg (by simp [harmed]), if_neg (by simp), if_neg (by simp [hbusy])]
      rfl
    · rw [if_pos (by simp [harmed])]
    · rw [if_neg (by simp [harmed]), if_pos heng]
    · subst heng
      rw [if_neg (by simp [harmed]), if_neg (by simp), if_pos (by simp [hfree])]

theorem isRequest_of_row {p : Params} {t : BitVec 2} {rq : Byte} {k : SetupFields → Instr} (row : RequestRow p t rq k)
    (q : SetupFields) : (k q).isRequest = true := by
  cases row <;> rfl

/-- A packet decodes to a control request (R112, R113). -/
theorem decodeSetup_isRequest {p : Params} {bytes : List Byte} {i : Instr} (h : decodeSetup p bytes = .ok i) :
    i.isRequest = true := by
  obtain ⟨b, rq, v0, v1, x0, x1, l0, l1, rfl⟩ := decodeSetup_ok h
  have hpacket : decode p (.packet [b, rq, v0, v1, x0, x1, l0, l1]) = .ok i := h
  rw [packet_eq_packetOf] at hpacket
  obtain ⟨k, row, rfl⟩ := decode_packetOf_row hpacket
  exact isRequest_of_row row _

theorem setupStage_of_ok {s : State} {i : Instr} (h : decodeSetup s.cfg s.setupPacket = .ok i) :
    setupStage s = exec i s := by
  rw [exec_request (decodeSetup_isRequest h), setupStage, h]

/-- Settles O7: the dispatcher of R202 and the meaning of the request agree on every request a packet decodes to. -/
theorem irqRunsTheDecodedRequest : Obligations.IrqRunsTheDecodedRequest := by
  intro s half rest i h htrn hdec
  rw [← State.readBufs_zero] at hdec
  exact (exec_irq_completion h htrn).trans (setupStage_of_ok hdec)

/-! ### An IN completion that follows a SETUP in the queue (R162, R201, R225; log 34) -/

/-- The interrupt is enabled on an attached device that is not suspended, and no source but TRN can be pending. -/
structure State.OnlyTrnPending (s : State) : Prop where
  enable : s.irq.enable = true
  attached : s.dev.state ≠ .detached
  mask : s.irq.mask = 0x1B#8
  pending : s.irq.pending = { reset := false, error := false, activity := false, idle := false }

theorem irqTakes_trn_of_onlyTrnPending {s : State} (h : s.OnlyTrnPending) (htrn : s.irq.trn ≠ []) : irqTakes s .trn := by
  refine ⟨h.enable, h.attached, ⟨htrn, by rw [h.mask]; rfl⟩, ?_⟩
  simp [taken, h.pending]

/-- What a SETUP or OUT transaction has stored reads back. -/
theorem map_readBuf_of_storedAt {s t : State} {d : DescId} {bs : List Byte} (h : storedAt s t d bs)
    (hlen : bs.length ≤ 64) : ((List.range bs.length).map fun k => t.readBuf d k) = bs := by
  refine List.ext_getElem (by simp) fun k hk hk' => ?_
  simp [h d k (by omega), hk']

/-- R225's otherwise case: an OUT data stage expects no IN completion. -/
theorem ep0InComplete_of_outStage {s : State} (hstage : s.ctl.dataStage = true) (hout : s.ctl.dirIn = false) :
    ep0InComplete s = .fault (.unexpectedCompletion { kind := .inp, ep := .ep0, half := false }) := by
  simp [ep0InComplete, hstage, hout]

/-- The SETUP in front of the queue starts an OUT data stage, and the IN record behind it is then one of that stage. -/
theorem exec_irq_staleIn_fault {s : State} {q : SetupFields} (hquiet : s.OnlyTrnPending) (hconf : s.dev.configured = true)
    (htrn : s.irq.trn = [{ kind := .setup, ep := .ep0, half := false }, { kind := .inp, ep := .ep0, half := false }])
    (hdec : decodeSetup s.cfg ((List.range 8).map fun k => s.readBuf .ep0Out k) = .ok (.setLineCoding q))
    (hlength : q.wLength ≠ 0#16) :
    ∃ t, exec .irq s = .next t ∧
      exec .irq t = .fault (.unexpectedCompletion { kind := .inp, ep := .ep0, half := false }) := by
  have htakes : irqTakes s .trn := irqTakes_trn_of_onlyTrnPending hquiet (by simp [htrn])
  have hrequest := irqRunsTheDecodedRequest s false _ _ htakes htrn hdec
  obtain ⟨-, hstage⟩ := (outRequestsAwaitTheirFirstPacket
    (s.setTrn [{ kind := .inp, ep := .ep0, half := false }]) q hconf).2 hlength
  refine ⟨_, hrequest.trans hstage, ?_⟩
  refine (exec_irq_completion (irqTakes_trn_of_onlyTrnPending ?_ ?_) rfl).trans ?_
  · exact ⟨hquiet.enable, hquiet.attached, hquiet.mask, hquiet.pending⟩
  · exact List.cons_ne_nil _ _
  · exact ep0InComplete_of_outStage rfl rfl

/-- Settles O60: both acts are enabled before the next interrupt step, and they queue their records in this order. -/
theorem staleInCompletionFaults : Obligations.StaleInCompletionFaults := by
  intro s packet q hstate hsusp hconf henable hmask htrn hpending hown hin hdec hlength
  have hlen : packet.length = 8 := by
    obtain ⟨b, rq, v0, v1, x0, x1, l0, l1, rfl⟩ := decodeSetup_ok hdec
    rfl
  obtain ⟨t, hsetup, ht, hstored⟩ := setupActStoresItsPacket s packet hlen hstate (by rw [hpending]) hown
  have hdev : t.dev = s.dev := (congrArg State.dev ht).trans rfl
  have hcfg : t.cfg = s.cfg := (congrArg State.cfg ht).trans rfl
  have htin : t.bd.ep0In = armedBd 0#10 true := (congrArg (fun v : State => v.bd.ep0In) ht).trans hin
  have hirq : t.irq = { s.irq with trn := [{ kind := .setup, ep := .ep0, half := false }] } := by
    refine (congrArg State.irq ht).trans ?_
    simp [htrn, hpending, hsusp]
  have hpacket : ((List.range 8).map fun k => t.readBuf .ep0Out k) = packet := by
    rw [← hlen]
    exact map_readBuf_of_storedAt hstored (by omega)
  obtain ⟨hact, -⟩ := inActsPutThePacketOnTheWire t (by rw [hdev, hstate]) (by rw [hirq, hpending])
  obtain ⟨u, hu, hsent⟩ : ∃ u, u = _ ∧ exec (.evTrnIn .ep0 false) t = .next u :=
    ⟨_, rfl, hact (by rw [htin]; rfl) (by rw [htin]; rfl) (by rw [htin]; exact Nat.zero_le _)⟩
  have hudev : u.dev = s.dev := (congrArg State.dev hu).trans hdev
  have huirq : u.irq = { s.irq with trn :=
      [{ kind := .setup, ep := .ep0, half := false }, { kind := .inp, ep := .ep0, half := false }] } := by
    refine (congrArg State.irq hu).trans ?_
    simp [hirq, hdev, hpending, hsusp]
  have hudec : decodeSetup u.cfg ((List.range 8).map fun k => u.readBuf .ep0Out k) = .ok (.setLineCoding q) := by
    rw [hu]
    show decodeSetup t.cfg ((List.range 8).map fun k => t.readBuf .ep0Out k) = _
    rw [hcfg, hpacket, hdec]
  have hquiet : u.OnlyTrnPending := by
    constructor <;> simp [huirq, hudev, henable, hstate, hmask, hpending]
  obtain ⟨v, hrequest, hfault⟩ :=
    exec_irq_staleIn_fault hquiet (by rw [hudev, hconf]) (by rw [huirq]) hudec hlength
  exact ⟨t, u, v, hsetup, hsent, hrequest, hfault⟩

end Sys2Proof.Machine
end

section
/-! Endpoint 0 ready for the next SETUP and the interrupt endpoint stalled (40_device_events.md R168; 41_control_transfer.md
R222; 70_reset_and_hazards.md R440): each operation of the port keeps both, and with it every step. -/

namespace Sys2Proof.Machine

/-! ### What the two invariants look at -/

/-- What both invariants look at beside the owner of `bd[0][OUT]`. -/
def State.epFrame (s : State) : Bool × Bd × List Completion := (s.engineOn, s.desc .notifIn, s.irq.trn)

def State.epView (s : State) : (Bool × Bd × List Completion) × Owner := (s.epFrame, (s.desc .ep0Out).own)

/-- The step from `s` to `t` keeps endpoint 0 ready and the interrupt endpoint stalled. -/
structure State.KeepsEndpoints (s t : State) : Prop where
  ep0 : s.ep0Ready → t.ep0Ready
  notif : s.notifStalled → t.notifStalled

section
variable {s t u : State}

theorem State.KeepsEndpoints.trans (h : s.KeepsEndpoints t) (k : t.KeepsEndpoints u) : s.KeepsEndpoints u :=
  ⟨fun hs => k.ep0 (h.ep0 hs), fun hs => k.notif (h.notif hs)⟩

/-- Both invariants speak of an attached device alone. -/
theorem State.KeepsEndpoints.of_detached (h : t.dev.state = .detached) : s.KeepsEndpoints t :=
  ⟨fun _ ht => absurd h ht, fun _ ht => absurd h ht⟩

/-- The initialisation of a bus reset establishes both (R166, R167). -/
theorem State.KeepsEndpoints.of_stalled (hep0 : (t.desc .ep0Out).own = .engine)
    (hnotif : t.desc .notifIn = { own := .engine, dts := false, stall := true, count := 0#10 }) : s.KeepsEndpoints t :=
  ⟨fun _ _ => .inl hep0, fun _ _ => hnotif⟩

theorem State.KeepsEndpoints.of_attached (hon : t.engineOn = s.engineOn) (hnotif : t.desc .notifIn = s.desc .notifIn)
    (hep0 : ((s.desc .ep0Out).own = .engine ∨ ∃ e ∈ s.irq.trn, e.ofEp0Out) →
      (t.desc .ep0Out).own = .engine ∨ ∃ e ∈ t.irq.trn, e.ofEp0Out) : s.KeepsEndpoints t := by
  have hattached (ht : t.dev.state ≠ .detached) : s.dev.state ≠ .detached := by
    rw [← engineOn_iff, hon, engineOn_iff] at ht
    exact ht
  exact ⟨fun hs ht => hep0 (hs (hattached ht)), fun hs ht => hnotif.trans (hs (hattached ht))⟩

theorem State.KeepsEndpoints.of_view (h : t.epView = s.epView) : s.KeepsEndpoints t := by
  simp only [State.epView, State.epFrame, Prod.mk.injEq] at h
  obtain ⟨⟨hon, hnotif, htrn⟩, hown⟩ := h
  exact .of_attached hon hnotif (by rw [hown, htrn]; exact id)

theorem State.KeepsEndpoints.of_frame {frame : State} (h : t = frame) (hframe : frame.epView = s.epView) :
    s.KeepsEndpoints t :=
  .of_view (h ▸ hframe)

theorem State.KeepsEndpoints.of_whenEnabled {e : Bool} {r : Result} (h : whenEnabled e s r = .next t)
    (hr : e = true → r = .next t → s.KeepsEndpoints t) : s.KeepsEndpoints t := by
  rcases whenEnabled_next h with ⟨he, h⟩ | ⟨-, rfl⟩
  · exact hr he h
  · exact .of_view rfl

theorem State.KeepsEndpoints.of_whenAwake {r : Result} (h : whenAwake s r = .next t)
    (hr : r = .next t → s.KeepsEndpoints t) : s.KeepsEndpoints t := by
  rcases whenAwake_next h with ⟨-, h⟩ | ⟨-, rfl⟩
  · exact hr h
  · exact .of_view rfl

theorem State.KeepsEndpoints.of_returning {r : Ret} (h : returning r u = .next t) (hu : s.KeepsEndpoints u) :
    s.KeepsEndpoints t := by
  obtain rfl := Host.Outcome.next.inj h
  exact hu.trans (.of_view rfl)

/-! ### The engine's acts (R162, R163): a transaction on `bd[0][OUT]` queues its completion -/

@[simp] theorem State.noteActivity_epView (s : State) : s.noteActivity.epView = s.epView := by
  simp [State.epView, State.epFrame, State.engineOn, State.noteActivity_irq]

theorem State.KeepsEndpoints.noteActivity (h : s.KeepsEndpoints u) : s.KeepsEndpoints u.noteActivity :=
  h.trans (.of_view u.noteActivity_epView)

theorem State.KeepsEndpoints.setSie (h : s.KeepsEndpoints u) (v : Sie) : s.KeepsEndpoints (u.setSie v) :=
  ⟨h.ep0, h.notif⟩

theorem State.stored_epView (s : State) {d : DescId} (hd : d ≠ .notifIn) (bs : List Byte) :
    (s.stored d bs).epView = s.epView := by
  have hnotif : (s.stored d bs).desc .notifIn = s.desc .notifIn := (s.stored_desc d _ bs).trans (if_neg hd.symm)
  simp [State.epView, State.epFrame, State.engineOn, State.stored_owner, hnotif]

theorem State.keepsEndpoints_complete (s : State) {d : DescId} {r : Completion} (hd : d ≠ .notifIn)
    (hr : d = .ep0Out → r.ofEp0Out) : s.KeepsEndpoints (s.complete d r) := by
  refine .of_attached rfl ((s.complete_desc d _ r).trans (if_neg hd.symm)) fun hs => ?_
  show _ ∨ ∃ e ∈ s.irq.trn ++ [r], e.ofEp0Out
  by_cases hout : d = .ep0Out
  · exact .inr ⟨r, by simp, hr hout⟩
  · rw [State.complete_desc, if_neg (Ne.symm hout)]
    exact hs.imp_right fun ⟨e, he, hof⟩ => ⟨e, List.mem_append_left _ he, hof⟩

theorem State.keepsEndpoints_receive (s : State) {d : DescId} {r : Completion} (hd : d ≠ .notifIn)
    (hr : d = .ep0Out → r.ofEp0Out) {bs : List Byte} : s.KeepsEndpoints (s.receive d bs r) :=
  .trans (.of_view (s.stored_epView hd bs)) (State.keepsEndpoints_complete _ hd hr)

theorem State.keepsEndpoints_transmit (s : State) {d : DescId} {r : Completion} (hd : d ≠ .notifIn ∧ d ≠ .ep0Out) :
    s.KeepsEndpoints (s.transmit d r) :=
  have hsent := (s.setWireIn (s.wireIn ++ [s.wirePacket d r.ep])).keepsEndpoints_complete hd.1 fun h => absurd h hd.2
  ⟨hsent.ep0, hsent.notif⟩

theorem execEvTrnOut_keepsEndpoints {ep : Endpoint} {half : Bit} {data : List Byte}
    (h : execEvTrnOut ep half data s = .next t) : s.KeepsEndpoints t := by
  cases ep with
  | ep0 =>
    refine .of_whenEnabled h fun _ h => .of_returning h (.noteActivity ?_)
    exact s.keepsEndpoints_receive (by simp) (by simp [Completion.ofEp0Out])
  | notif => exact .of_whenEnabled h nofun
  | bulk =>
    refine .of_whenEnabled h fun _ h => .of_returning h (.noteActivity (.setSie ?_ _))
    exact s.keepsEndpoints_receive (by simp) (by simp)

theorem execEvTrnIn_keepsEndpoints {ep : Endpoint} {half : Bit} (h : execEvTrnIn ep half s = .next t) :
    s.KeepsEndpoints t := by
  cases ep with
  | ep0 =>
    refine .of_whenEnabled h fun _ h => .of_returning (withinBuffer_next h) (.noteActivity ?_)
    exact s.keepsEndpoints_transmit ⟨nofun, nofun⟩
  | notif => exact .of_whenEnabled h nofun
  | bulk =>
    refine .of_whenEnabled h fun _ h => .of_returning (withinBuffer_next h) (.noteActivity (.setSie ?_ _))
    exact s.keepsEndpoints_transmit ⟨nofun, nofun⟩

theorem execEvSe0Exit_keepsEndpoints (h : execEvSe0Exit s = .next t) : s.KeepsEndpoints t := by
  refine .of_whenEnabled h fun he h => .of_returning h (.of_view ?_)
  have hattached : s.dev.state = .attached := of_decide_eq_true he
  simp [State.epView, State.epFrame, State.engineOn, hattached]

/-! ### The pipe's firmware operations (R271-R281): they arm bulk descriptors alone -/

theorem State.arm_bulkOut_epView (s : State) (h : Bit) (n : Nat) (d : Bit) : (s.arm (.bulkOut h) n d).epView = s.epView := by
  cases h <;> rfl

theorem State.arm_bulkIn_epView (s : State) (h : Bit) (n : Nat) (d : Bit) : (s.arm (.bulkIn h) n d).epView = s.epView := by
  cases h <;> rfl

theorem State.rxRecycle_epView (s : State) : s.rxRecycle.epView = s.epView := by
  unfold State.rxRecycle
  split
  · split
    · exact s.arm_bulkOut_epView _ 64 _
    · rfl
  · rfl

theorem State.rxAcquire_epView (s : State) : s.rxAcquire.epView = s.epView := by
  rw [State.rxAcquire_frame]
  rfl

theorem State.txTryAcquire_epView (s : State) : s.txTryAcquire.epView = s.epView := by
  rw [State.txTryAcquire_frame]
  rfl

theorem State.flushSlice_epView (s : State) (x : TxSlice) : (s.flushSlice x).2.epView = s.epView := by
  rcases s.flushSlice_cases x with ⟨h, -⟩ | ⟨h, -⟩ <;> rw [h]
  exact (State.txTryAcquire_epView _).trans (s.arm_bulkIn_epView x.half x.fill x.half)

theorem State.flushBody_epView (s : State) : s.flushBody.2.epView = s.epView := by
  unfold State.flushBody
  split
  · exact s.flushSlice_epView _
  · split
    · split
      · exact (State.flushSlice_epView _ _).trans s.txTryAcquire_epView
      · exact s.txTryAcquire_epView
    · rfl

theorem State.txRecycle_epView (s : State) : s.txRecycle.epView = s.epView := by
  unfold State.txRecycle
  split
  · split
    · exact s.flushBody_epView
    · rfl
  · rfl

theorem execAcqRx_keepsEndpoints (h : execAcqRx s = .next t) : s.KeepsEndpoints t := by
  refine .of_whenAwake h fun h => ?_
  split at h
  · exact .of_returning h (.of_view (s.rxRecycle.rxAcquire_epView.trans s.rxRecycle_epView))
  · exact .of_returning h (.of_view rfl)

theorem execAcqTx_keepsEndpoints (h : execAcqTx s = .next t) : s.KeepsEndpoints t := by
  refine .of_whenAwake h fun h => ?_
  split at h
  · exact .of_returning h (.of_view (s.txRecycle.txTryAcquire_epView.trans s.txRecycle_epView))
  · exact .of_returning h (.of_view rfl)

theorem execFlush_keepsEndpoints (h : execFlush s = .next t) : s.KeepsEndpoints t := by
  refine .of_whenAwake h fun h => ?_
  split at h
  · exact .of_returning h (.of_view s.flushBody_epView)
  · exact .of_returning h (.of_view rfl)

/-! ### The interrupt step -/

theorem epFrame_of_onEp0 (h : OnEp0 s t) : t.epFrame = s.epFrame := by
  induction h with
  | refl => rfl
  | desc _ d v hd _ ih =>
    refine Eq.trans ?_ ih
    rcases hd with rfl | rfl <;> rfl
  | bytes _ bs _ ih =>
    refine Eq.trans ?_ ih
    simp [State.epFrame, State.engineOn, State.desc]
  | dev _ v hstate _ ih =>
    refine Eq.trans ?_ ih
    simp only [State.epFrame, State.engineOn, State.setDev_dev, hstate]
    rfl
  | ctl _ _ ih | lc _ _ _ ih | reason _ _ ih | ret _ _ ih => exact ih

theorem State.pipeSetup_epFrame (s : State) : s.pipeSetup.epFrame = s.epFrame := rfl

theorem State.pipeTeardown_epFrame (s : State) : s.pipeTeardown.epFrame = s.epFrame := rfl

theorem epFrame_of_setupStep {i : Instr} (h : SetupStep s i t) : t.epFrame = s.epFrame := by
  rcases h.cases with h | ⟨-, u, hu, h | h⟩
  · exact epFrame_of_onEp0 h
  · rw [epFrame_of_onEp0 h, State.pipeSetup_epFrame, epFrame_of_onEp0 hu]
  · rw [epFrame_of_onEp0 h, State.pipeTeardown_epFrame, epFrame_of_onEp0 hu]

/-- R222: a SETUP step arms `bd[0][OUT]`. -/
theorem ep0Out_of_setupStep {i : Instr} (h : SetupStep s i t) : (t.desc .ep0Out).own = .engine := by
  obtain ⟨u, a, w, -, rfl⟩ := h
  exact u.startStage_ep0Out a w

/-- An OUT completion arms `bd[0][OUT]` again in each of its cases (R226). -/
theorem ep0Out_of_ep0OutComplete (h : ep0OutComplete s = .next t) : (t.desc .ep0Out).own = .engine := by
  unfold ep0OutComplete at h
  dsimp only at h
  split at h
  · split at h <;> obtain rfl := Host.Outcome.next.inj h <;> rfl
  · obtain rfl := Host.Outcome.next.inj h
    rfl

/-- An IN completion does not touch `bd[0][OUT]` (R224, R225, R227). -/
theorem ep0Out_of_ep0InComplete (h : ep0InComplete s = .next t) : (t.desc .ep0Out).own = (s.desc .ep0Out).own := by
  rcases ep0InComplete_next h with rfl | rfl | ⟨-, rfl⟩
  · rfl
  · simp [State.sendInChunk, State.arm, State.armStall, State.setDesc, State.desc, BdTable.put, BdTable.get]
  · unfold State.applyAddress
    split <;> rfl

/-- Taking a record from the queue keeps both invariants where its handling arms `bd[0][OUT]`, or leaves the descriptor and
the record is none of its completions. -/
theorem State.KeepsEndpoints.of_taken {e : Completion} {rest : List Completion} (htrn : s.irq.trn = e :: rest)
    (hframe : t.epFrame = (s.setTrn rest).epFrame)
    (hep0 : (t.desc .ep0Out).own = .engine ∨ ((t.desc .ep0Out).own = (s.desc .ep0Out).own ∧ ¬ e.ofEp0Out)) :
    s.KeepsEndpoints t := by
  simp only [State.epFrame, Prod.mk.injEq] at hframe
  obtain ⟨hon, hnotif, hrest⟩ := hframe
  refine .of_attached hon hnotif fun hs => ?_
  rcases hep0 with harmed | ⟨hown, hother⟩
  · exact .inl harmed
  · rw [hown]
    refine hs.imp_right fun ⟨c, hc, hof⟩ => ?_
    rw [htrn, List.mem_cons] at hc
    rcases hc with rfl | hc
    · exact absurd hof hother
    · exact ⟨c, hrest ▸ hc, hof⟩

theorem handleTrn_keepsEndpoints (h : handleTrn s = .next t) : s.KeepsEndpoints t := by
  rcases handleTrn_next h with rfl | ⟨⟨kind, ep, half⟩, rest, htrn, h⟩
  · exact .of_view rfl
  · unfold handleCompletion at h
    split at h
    case h_1 =>
      obtain ⟨i, h⟩ := setupStage_next h
      exact .of_taken htrn (epFrame_of_setupStep h) (.inl (ep0Out_of_setupStep h))
    case h_2 => exact .of_taken htrn (epFrame_of_onEp0 (.of_ep0OutComplete h)) (.inl (ep0Out_of_ep0OutComplete h))
    case h_3 hkind _ =>
      refine .of_taken htrn (epFrame_of_onEp0 (.of_ep0InComplete h)) (.inr ⟨(ep0Out_of_ep0InComplete h).trans rfl, ?_⟩)
      exact fun hof => hof.2 hkind
    case h_4 _ hep =>
      obtain ⟨-, -, -, rfl⟩ := bulkOutComplete_next h
      exact .of_taken htrn rfl (.inr ⟨rfl, fun hof => by cases hep.symm.trans hof.1⟩)
    case h_5 _ hep =>
      obtain ⟨-, -, -, rfl⟩ := bulkInComplete_next h
      exact .of_taken htrn rfl (.inr ⟨rfl, fun hof => by cases hep.symm.trans hof.1⟩)
    all_goals cases h

theorem execIrq_keepsEndpoints (h : execIrq s = .next t) : s.KeepsEndpoints t := by
  rcases execIrq_next h with rfl | ⟨-, src, -, h⟩
  · exact .of_view rfl
  · cases src with
    | trn => exact handleTrn_keepsEndpoints h
    | reset =>
      obtain rfl := Host.Outcome.next.inj h
      exact .of_stalled rfl rfl
    | idle | error =>
      obtain rfl := Host.Outcome.next.inj h
      exact .of_view rfl
    | activity =>
      change handleActivity s = .next t at h
      unfold handleActivity at h
      dsimp only at h
      split at h <;> obtain rfl := Host.Outcome.next.inj h <;> exact .of_view rfl

/-! ### Every operation -/

theorem execAttach_keepsEndpoints (h : execAttach s = .next t) : s.KeepsEndpoints t := by
  refine .of_whenAwake h fun h => ?_
  split at h
  · exact .of_returning h (.of_stalled rfl rfl)
  · exact .of_returning h (.of_view rfl)

theorem exec_keepsEndpoints {i : Instr} (hi : i.ofPort) (h : exec i s = .next t) : s.KeepsEndpoints t := by
  cases i, hi using Instr.ofPort_elim with
  | evSe0Exit => exact execEvSe0Exit_keepsEndpoints h
  | evBusReset | evIdle | evError classes =>
    exact .of_whenEnabled h fun _ h => .of_returning h (.noteActivity (.of_view rfl))
  | evActivity => exact .of_whenEnabled h fun _ h => .of_returning h (.of_view rfl)
  | evTrnSetup packet =>
    refine .of_whenEnabled h fun _ h => .of_returning h (.noteActivity ?_)
    exact s.keepsEndpoints_receive (by simp) (by simp [Completion.ofEp0Out])
  | evTrnOut ep half data => exact execEvTrnOut_keepsEndpoints h
  | evTrnIn ep half => exact execEvTrnIn_keepsEndpoints h
  | attach => exact execAttach_keepsEndpoints h
  | acqRx => exact execAcqRx_keepsEndpoints h
  | rxRead index => exact .of_frame (execRxRead_frame h) rfl
  | rxTake count => exact .of_frame (execRxTake_frame h) rfl
  | acqTx => exact execAcqTx_keepsEndpoints h
  | txPut byte => exact .of_frame (execTxPut_frame h) rfl
  | flush => exact execFlush_keepsEndpoints h
  | isActive | csEnter => exact .of_whenAwake h fun h => .of_returning h (.of_view rfl)
  | csExit => rcases execCsExit_next h with ⟨saved, rest, -, rfl⟩ | rfl <;> exact .of_view rfl
  | sleep =>
    refine .of_whenAwake h fun h => .of_returning h ?_
    split <;> exact .of_view rfl
  | resetExec =>
    rcases execResetExec_next h with ⟨-, rfl⟩ | ⟨r, rfl⟩
    · exact .of_detached rfl
    · exact .of_view rfl
  | irq => exact execIrq_keepsEndpoints h
  | watchdog =>
    rcases execWatchdog_next h with ⟨-, rfl⟩ | ⟨r, rfl⟩
    · exact .of_detached rfl
    · exact .of_view rfl

theorem keepsEndpoints_of_block (h : t.block = s.block) : s.KeepsEndpoints t :=
  .of_view (congrArg
    (fun b : Block => ((decide (b.devState ≠ .detached), b.bd.notifIn, b.irq.trn), b.bd.ep0Out.own)) h)

end

/-- Settles O50: both are invariants of the block, which every operation of the port keeps. -/
theorem everyStepLeavesEndpointZeroReady : Obligations.EveryStepLeavesEndpointZeroReady := by
  refine ⟨fun s t hs h => ?_, fun s t hs h => ?_⟩
  · exact step_keeps_block (fun h => (keepsEndpoints_of_block h).ep0) (fun hi h => (exec_keepsEndpoints hi h).ep0) h hs
  · exact step_keeps_block (fun h => (keepsEndpoints_of_block h).notif) (fun hi h => (exec_keepsEndpoints hi h).notif) h hs

end Sys2Proof.Machine
end

section
/-! The packets of an IN data stage (41_control_transfer.md R203, R224, R225): the chunk a completion or a request
sends, as the next state it gives. -/

namespace Sys2Proof.Machine

open Sys2Proof.Statements

/-! ### Counting down `ctl.remaining` -/

section
variable {r : Word} {k : Nat}

theorem sub_ofNat_of_le (h : k ≤ r.toNat) : r - BitVec.ofNat 16 k = BitVec.ofNat 16 (r.toNat - k) := by
  apply BitVec.eq_of_toNat_eq
  have hlt := r.isLt
  simp only [BitVec.toNat_sub, BitVec.toNat_ofNat]
  omega

theorem sub_ofNat_eq_zero_iff (h : k ≤ r.toNat) : r - BitVec.ofNat 16 k = 0#16 ↔ r.toNat = k := by
  rw [sub_ofNat_of_le h, ← BitVec.toNat_inj]
  have hlt := r.isLt
  simp only [BitVec.toNat_ofNat]
  omega

end

/-! ### One packet (R224) -/

/-- The size of the next packet. -/
def State.inCount (s : State) : Nat := min s.ctl.remaining.toNat s.cfg.ep0Size.bytes

/-- The control-transfer group after the next packet has been armed. -/
def State.ctlSent (s : State) : Ctl :=
  { s.ctl with
    offset := s.ctl.offset + BitVec.ofNat 16 s.inCount
    remaining := BitVec.ofNat 16 (s.ctl.remaining.toNat - s.inCount)
    toggle := !s.ctl.toggle
    inDone := s.ctl.inDone || (decide (s.inCount < s.cfg.ep0Size.bytes) || decide (s.ctl.remaining.toNat = s.inCount)) }

/-- The record of the model: `ctl.remaining` counts down without a borrow. -/
theorem State.ctlSent_eq (s : State) :
    s.ctlSent =
      { s.ctl with
        offset := s.ctl.offset + BitVec.ofNat 16 s.inCount
        remaining := s.ctl.remaining - BitVec.ofNat 16 s.inCount
        toggle := !s.ctl.toggle
        inDone := s.ctl.inDone || decide (s.inCount < s.cfg.ep0Size.bytes) ||
          decide (s.ctl.remaining - BitVec.ofNat 16 s.inCount = 0#16) } := by
  have hle : s.inCount ≤ s.ctl.remaining.toNat := Nat.min_le_left _ _
  simp only [State.ctlSent, Bool.or_assoc, ← sub_ofNat_eq_zero_iff hle]
  rw [sub_ofNat_of_le hle]

theorem State.sendInChunk_record (s : State) :
    s.sendInChunk =
      { s with
        buf := (s.writeBufs .ep0In 0 s.inChunk).buf
        bd := { s.bd with ep0In := armedBd (BitVec.ofNat 10 s.inCount) s.ctl.toggle }
        ctl := s.ctlSent } := by
  rw [State.ctlSent_eq, State.sendInChunk, State.writeBufs_eq]
  rfl

/-- The bytes of the packet stand in the IN buffer of endpoint 0. -/
theorem State.storedAt_sendInChunk (s : State) : storedAt s s.sendInChunk .ep0In s.inChunk :=
  storedAt_of_buf (by rw [State.sendInChunk_record]) (by simp) s.inChunk_length_le

/-! ### IN completions (R225) -/

section
variable {s : State}

theorem ep0InComplete_of_inStage (hstage : s.ctl.dataStage = true) (hin : s.ctl.dirIn = true)
    (hdone : s.ctl.inDone = false) : ep0InComplete s = .next (s.sendInChunk.setRet .none) := by
  simp [ep0InComplete, hstage, hin, hdone, returnFromInterrupt, returning]

theorem ep0InComplete_of_inDone (hstage : s.ctl.dataStage = true) (hin : s.ctl.dirIn = true)
    (hdone : s.ctl.inDone = true) : ep0InComplete s = .next (s.setRet .none) := by
  simp [ep0InComplete, hstage, hin, hdone, returnFromInterrupt, returning]

theorem ep0InComplete_of_noStage (hstage : s.ctl.dataStage = false) :
    ep0InComplete s = .next (s.applyAddress.setRet .none) := by
  simp [ep0InComplete, hstage, returnFromInterrupt, returning]

theorem State.applyAddress_of_some {a : BitVec 7} (h : s.ctl.pendingAddress = some a) :
    s.applyAddress = (s.setDev { s.dev with address := a }).setCtl { s.ctl with pendingAddress := none } := by
  simp [State.applyAddress, h]

theorem State.applyAddress_of_none (h : s.ctl.pendingAddress = none) : s.applyAddress = s := by
  simp [State.applyAddress, h]

end

/-- Settles O20: the branches of R225; in an IN data stage the step is that of the next packet. -/
theorem inCompletionSendsOnOrAppliesTheAddress : Obligations.InCompletionSendsOnOrAppliesTheAddress := by
  intro s half rest h htrn
  have hrun : exec .irq s = ep0InComplete (s.setTrn rest) := exec_irq_completion h htrn
  rw [hrun]
  refine ⟨fun a hstage haddr => ?_, fun hstage haddr => ?_, fun hstage hin hdone => ?_, fun hstage hout => ?_,
    fun hstage hin hdone => ?_⟩
  · refine (ep0InComplete_of_noStage (s := s.setTrn rest) hstage).trans ?_
    rw [State.applyAddress_of_some (s := s.setTrn rest) haddr]
    rfl
  · refine (ep0InComplete_of_noStage (s := s.setTrn rest) hstage).trans ?_
    rw [State.applyAddress_of_none (s := s.setTrn rest) haddr]
    rfl
  · exact ep0InComplete_of_inDone hstage hin hdone
  · exact ep0InComplete_of_outStage hstage hout
  · refine ⟨_, ep0InComplete_of_inStage hstage hin hdone, ?_, (s.setTrn rest).storedAt_sendInChunk⟩
    rw [State.sendInChunk_record, State.ctlSent, show (s.setTrn rest).ctl.inDone = false from hdone]
    rfl

/-! ### The first packet of a request (R203, R224) -/

theorem srcBytes_congr {s t : State} (hcfg : t.cfg = s.cfg) (hlc : t.lc = s.lc) (src : Src) :
    srcBytes t src = srcBytes s src := by
  cases src <;> simp [srcBytes, hcfg, hlc]

/-- The state in which `start_in()` sends its first packet. -/
def State.inStage (s : State) (kind : SrcKind) (src : Src) (wLength : Word) : State :=
  s.setCtl { s.ctl with
    dataStage := true, dirIn := true, srcKind := kind, src := src
    remaining := BitVec.ofNat 16 (min (srcBytes s src).length wLength.toNat)
    offset := 0#16, toggle := true, inDone := false }

theorem State.startIn_eq (s : State) (kind : SrcKind) (src : Src) (w : Word) :
    s.startIn kind src w = (s.inStage kind src w).sendInChunk.arm .ep0Out s.cfg.ep0Size.bytes true := by
  rfl

section
variable (s : State) (kind : SrcKind) (src : Src) (w : Word)

theorem State.inStage_remaining :
    (s.inStage kind src w).ctl.remaining.toNat = min (srcBytes s src).length w.toNat :=
  (BitVec.toNat_ofNat _ _).trans (Nat.mod_eq_of_lt ((Nat.min_le_right _ _).trans_lt w.isLt))

theorem State.inStage_inCount :
    (s.inStage kind src w).inCount = min (min (srcBytes s src).length w.toNat) s.cfg.ep0Size.bytes := by
  rw [State.inCount, State.inStage_remaining]
  rfl

theorem State.inStage_inChunk :
    (s.inStage kind src w).inChunk =
      (srcBytes s src).take (min (min (srcBytes s src).length w.toNat) s.cfg.ep0Size.bytes) := by
  have hsrc : srcBytes (s.inStage kind src w) src = srcBytes s src := srcBytes_congr rfl rfl src
  rw [← State.inStage_inCount, ← hsrc]
  rfl

/-- The control-transfer group after the first packet of a source of n bytes, k of them sent. -/
theorem State.inStage_ctlSent :
    let n := min (srcBytes s src).length w.toNat
    let k := min n s.cfg.ep0Size.bytes
    (s.inStage kind src w).ctlSent =
      { s.ctl with
        dataStage := true, dirIn := true, srcKind := kind, src := src
        remaining := BitVec.ofNat 16 (n - k), offset := BitVec.ofNat 16 k, toggle := false
        inDone := decide (k < s.cfg.ep0Size.bytes) || decide (n - k = 0) } := by
  intro n k
  have hsent : n = k ↔ n - k = 0 := by omega
  have hoffset : (s.inStage kind src w).ctl.offset + BitVec.ofNat 16 k = BitVec.ofNat 16 k := BitVec.zero_add _
  rw [State.ctlSent, State.inStage_inCount, State.inStage_remaining, decide_eq_decide.mpr hsent, hoffset]
  rfl

/-- The IN data stage of a request starts as R203 says, whatever the source. -/
theorem answerSetup_dataIn (q : SetupFields) :
    ∃ t, answerSetup (.dataIn kind src) q s = .next t ∧ inStarted s kind src (srcBytes s src) q.wLength t := by
  have hsrc : srcBytes s.beginSetup src = srcBytes s src := srcBytes_congr rfl rfl src
  refine ⟨_, answerSetup_next _ q s, ?_, ?_⟩
  · rw [State.startStage, State.startIn_eq, State.sendInChunk_record, State.inStage_ctlSent,
      State.inStage_inCount, hsrc]
    rfl
  · have hstored := (s.beginSetup.inStage kind src q.wLength).storedAt_sendInChunk
    rw [State.inStage_inChunk, hsrc] at hstored
    rw [State.startStage, State.startIn_eq]
    exact hstored
end

end Sys2Proof.Machine
end

section
/-! The control requests by the stage they start (41_control_transfer.md R200-R221; 42_bulk_pipe.md R285, R286): no data,
an IN data stage, or a stall. -/

namespace Sys2Proof.Machine

open Sys2Proof.Statements

/-! ### The stall and the status stage (R204, R205) -/

section
variable (q : SetupFields) (s : State)

theorem answerSetup_stall : answerSetup .stall q s = .next (ep0Stalled s) := rfl

theorem answerSetup_noData : answerSetup .noData q s = .next (statusArmed s) := rfl

theorem stallSetup_eq : stallSetup s = .next (ep0Stalled s) := rfl

end

/-! ### What each request answers -/

theorem eq_ofNat_of_bytes {w : Word} {hi lo : Nat} (hhi : (hiByte w).toNat = hi) (hlo : (loByte w).toNat = lo) :
    w = BitVec.ofNat 16 (256 * hi + lo) := by
  apply BitVec.eq_of_toNat_eq
  have hlt := w.isLt
  simp only [hiByte, loByte, BitVec.extractLsb'_toNat, Nat.shiftRight_eq_div_pow, BitVec.toNat_ofNat] at hhi hlo ⊢
  omega

section
variable {q : SetupFields} {s : State}

/-- The five descriptors of R208 are those the type and the index name. -/
theorem descriptorAnswer_stall (h : q.wValue ∉ [0x0100#16, 0x0200#16, 0x0300#16, 0x0301#16, 0x0302#16]) :
    descriptorAnswer q = .stall := by
  unfold descriptorAnswer
  split
  case h_6 => rfl
  all_goals
    rename_i hi lo
    exact absurd (by rw [eq_ofNat_of_bytes hi lo]; decide) h

theorem getInterfaceAnswer_of_le (h : (q.wIndex.extractLsb' 0 8).toNat ≤ 1) :
    getInterfaceAnswer q = .dataIn .ram .altval := if_pos h

theorem getInterfaceAnswer_of_lt (h : 2 ≤ (q.wIndex.extractLsb' 0 8).toNat) : getInterfaceAnswer q = .stall :=
  if_neg (Nat.not_le.mpr h)

theorem setInterfaceAnswer_of_matched (hindex : (q.wIndex.extractLsb' 0 8).toNat ≤ 1)
    (halt : q.wValue.extractLsb' 0 8 = 0#8) : setInterfaceAnswer q = .noData := if_pos ⟨hindex, halt⟩

theorem setInterfaceAnswer_of_unmatched
    (h : 2 ≤ (q.wIndex.extractLsb' 0 8).toNat ∨ q.wValue.extractLsb' 0 8 ≠ 0#8) : setInterfaceAnswer q = .stall :=
  if_neg fun ⟨hindex, halt⟩ => h.elim (Nat.not_le.mpr · hindex) (· halt)

theorem classAnswer_of_configured (h : s.dev.configured = true) (a : Answer) : classAnswer s a = a := if_pos h

theorem classAnswer_of_unconfigured (h : s.dev.configured = false) (a : Answer) : classAnswer s a = .stall :=
  if_neg (Bool.eq_false_iff.mp h)

theorem execSetControlLineState_of_configured (h : s.dev.configured = true) :
    execSetControlLineState q s =
      answerSetupWith (fun t => t.setDev { t.dev with lineState := lineStateOperand q }) .noData q s := if_pos h

theorem execSetControlLineState_of_unconfigured (h : s.dev.configured = false) :
    execSetControlLineState q s = answerSetup .stall q s := if_neg (Bool.eq_false_iff.mp h)

/-! ### SET_CONFIGURATION (R211, R285, R286) -/

theorem bulkInFlight_iff : s.bulkInFlight = true ↔ ∃ e ∈ s.irq.trn, e.ep = .bulk := by
  simp [State.bulkInFlight]

theorem bulkInFlight_eq_false (h : ∀ e ∈ s.irq.trn, e.ep ≠ .bulk) : s.bulkInFlight = false := by
  rw [← Bool.not_eq_true, bulkInFlight_iff]
  exact fun ⟨e, he, hbulk⟩ => h e he hbulk

theorem execSetConfiguration_one (hvalue : q.wValue.extractLsb' 0 8 = 1#8) (hfree : s.bulkInFlight = false) :
    execSetConfiguration q s =
      answerSetupWith (fun t => (t.setDev { t.dev with configured := true }).pipeSetup) .noData q s := by
  simp [execSetConfiguration, configOperand, loByte, hvalue, hfree]

theorem execSetConfiguration_zero (hvalue : q.wValue.extractLsb' 0 8 = 0#8) (hfree : s.bulkInFlight = false) :
    execSetConfiguration q s =
      answerSetupWith (fun t => (t.setDev { t.dev with configured := false }).pipeTeardown) .noData q s := by
  simp [execSetConfiguration, configOperand, loByte, hvalue, hfree]

theorem execSetConfiguration_inFlight (hvalue : (q.wValue.extractLsb' 0 8).toNat ≤ 1) (hbulk : s.bulkInFlight = true) :
    execSetConfiguration q s = .fault .reconfigInFlight := by
  have hoperand : (configOperand q).toNat = 0 ∨ (configOperand q).toNat = 1 :=
    Nat.le_one_iff_eq_zero_or_eq_one.mp hvalue
  rcases hoperand with h | h <;> simp [execSetConfiguration, h, hbulk]

theorem execSetConfiguration_unmatched (hvalue : 2 ≤ (q.wValue.extractLsb' 0 8).toNat) :
    execSetConfiguration q s = answerSetup .stall q s := by
  have hoperand : 2 ≤ (configOperand q).toNat := hvalue
  unfold execSetConfiguration
  split
  · omega
  · omega
  · rfl

end

/-- Settles O34: the pipe is rebuilt between the start of the SETUP step and its status stage. -/
theorem setConfigurationRebuildsThePipe : Obligations.SetConfigurationRebuildsThePipe := by
  intro s q
  refine ⟨fun hqueue hvalue => ?_, fun hqueue hvalue => ?_, fun hqueue hvalue => ?_⟩
  · exact execSetConfiguration_one hvalue (bulkInFlight_eq_false hqueue)
  · exact execSetConfiguration_zero hvalue (bulkInFlight_eq_false hqueue)
  · exact execSetConfiguration_inFlight hvalue (bulkInFlight_iff.mpr hqueue)

/-- Settles O33: the side effect of each request, and then the status stage. -/
theorem noDataRequestsArmTheStatusIn : Obligations.NoDataRequestsArmTheStatusIn := by
  intro s q
  refine ⟨rfl, fun hindex halt => ?_, fun hconf => ?_, rfl⟩
  · show answerSetup (setInterfaceAnswer q) q s = _
    rw [setInterfaceAnswer_of_matched hindex halt, answerSetup_noData]
  · exact execSetControlLineState_of_configured hconf

/-- GET_DESCRIPTOR sends the descriptor it answers with (R208). -/
theorem exec_getDescriptor_rom (s : State) {q : SetupFields} {src : Src} (h : descriptorAnswer q = .dataIn .rom src) :
    ∃ t, exec (.getDescriptor q) s = .next t ∧ inStarted s .rom src (srcBytes s src) q.wLength t := by
  show ∃ t, answerSetup (descriptorAnswer q) q s = .next t ∧ _
  rw [h]
  exact answerSetup_dataIn s .rom src q

/-- Settles O35: each request answers with its source, and the sources are started in one way. -/
theorem inRequestsSendTheirFirstPacket : Obligations.InRequestsSendTheirFirstPacket := by
  intro s q
  refine ⟨answerSetup_dataIn s .ram .status2 q, fun h => exec_getDescriptor_rom s (src := .device) ?device,
    fun h => exec_getDescriptor_rom s (src := .config) ?config,
    fun h => exec_getDescriptor_rom s (src := .string0) ?string0,
    fun h => exec_getDescriptor_rom s (src := .string1) ?string1,
    fun h => exec_getDescriptor_rom s (src := .string2) ?string2, ?getConfiguration, fun h => ?getInterface,
    fun h => ?getEncapsulatedResponse, fun h => ?getLineCoding, answerSetup_dataIn s .ram .ident q⟩
  case device | config | string0 | string1 | string2 =>
    simp [descriptorAnswer, descType, descIndex, hiByte, loByte, h]
  case getConfiguration =>
    obtain ⟨t, hrun, hstarted⟩ := answerSetup_dataIn s .ram (.cfgval (configByte s.dev.configured)) q
    exact ⟨t, _, hrun, rfl, hstarted⟩
  case getInterface =>
    show ∃ t, answerSetup (getInterfaceAnswer q) q s = .next t ∧ _
    rw [getInterfaceAnswer_of_le h]
    exact answerSetup_dataIn s .ram .altval q
  case getEncapsulatedResponse =>
    show ∃ t, answerSetup (classAnswer s _) q s = .next t ∧ _
    rw [classAnswer_of_configured h]
    exact answerSetup_dataIn s .none .none q
  case getLineCoding =>
    show ∃ t, answerSetup (classAnswer s _) q s = .next t ∧ _
    rw [classAnswer_of_configured h]
    exact answerSetup_dataIn s .ram .lc q

/-! ### Requests that do not match (R221) -/

theorem setupStage_of_reject {s : State} {why : Reject} (h : decodeSetup s.cfg s.setupPacket = .reject why) :
    setupStage s = .next (ep0Stalled s) := by
  rw [setupStage, h, stallSetup_eq]

/-- A class request stalls while the device is not configured (R202). -/
theorem exec_classRequest_of_unconfigured {s : State} (h : s.dev.configured = false) (q : SetupFields) :
    ∀ i ∈ [Instr.sendEncapsulatedCommand q, .getEncapsulatedResponse q, .setLineCoding q, .getLineCoding q,
           .setControlLineState q], exec i s = .next (ep0Stalled s) := by
  have hanswer : ∀ a, answerSetup (classAnswer s a) q s = .next (ep0Stalled s) := fun a => by
    rw [classAnswer_of_unconfigured h, answerSetup_stall]
  simp only [List.forall_mem_cons, List.not_mem_nil, false_implies, implies_true, and_true]
  exact ⟨hanswer _, hanswer _, hanswer _, hanswer _, execSetControlLineState_of_unconfigured h⟩

/-- Settles O37: every unmatched request answers with the stall of R204. -/
theorem unmatchedRequestsStallEndpointZero : Obligations.UnmatchedRequestsStallEndpointZero := by
  intro s q
  refine ⟨fun h => ?_, execSetConfiguration_unmatched, fun h => ⟨?_, ?_⟩, fun h => ?_,
    fun h => exec_classRequest_of_unconfigured h q, fun half rest why h htrn hdec => ?_⟩
  · show answerSetup (descriptorAnswer q) q s = _
    rw [descriptorAnswer_stall h, answerSetup_stall]
  · show answerSetup (getInterfaceAnswer q) q s = _
    rw [getInterfaceAnswer_of_lt h, answerSetup_stall]
  · show answerSetup (setInterfaceAnswer q) q s = _
    rw [setInterfaceAnswer_of_unmatched (.inl h), answerSetup_stall]
  · show answerSetup (setInterfaceAnswer q) q s = _
    rw [setInterfaceAnswer_of_unmatched (.inr h), answerSetup_stall]
  · rw [← State.readBufs_zero] at hdec
    exact (exec_irq_completion h htrn).trans (setupStage_of_reject hdec)

end Sys2Proof.Machine
end

section
/-! OUT completions of endpoint 0 (41_control_transfer.md R205, R226): the bytes that reach the line coding, and the
state after a packet of an OUT data stage. -/

namespace Sys2Proof.Machine

open Sys2Proof.Statements

/-! ### The line coding (R226) -/

theorem getD_setLc {lc : List Byte} (hlen : lc.length = 7) (j : Nat) (b : Byte) {i : Nat} (hi : i < 7) :
    (if j < 7 then lc.set j b else lc).getD i 0#8 = if i = j then b else lc.getD i 0#8 := by
  by_cases hij : i = j
  · subst hij
    simp [hi, hlen]
  · rw [if_neg hij]
    split <;> simp [List.getElem?_set_ne (Ne.symm hij)]

theorem storeLc_getD (bs : List Byte) : ∀ (lc : List Byte) (j i : Nat), lc.length = 7 → i < 7 →
    (storeLc lc j bs).getD i 0#8 = if j ≤ i ∧ i < j + bs.length then bs.getD (i - j) 0#8 else lc.getD i 0#8 := by
  induction bs with
  | nil =>
    intro lc j i _ _
    rw [if_neg (by simp)]
    rfl
  | cons b bs ih =>
    intro lc j i hlen hi
    have hlen' : (if j < 7 then lc.set j b else lc).length = 7 := by split <;> simp [hlen]
    rw [storeLc, ih _ (j + 1) i hlen' hi, getD_setLc hlen j b hi, List.length_cons]
    rcases Nat.lt_trichotomy i j with hij | rfl | hij
    · rw [if_neg (by omega), if_neg (by omega), if_neg (by omega)]
    · rw [if_neg (by omega), if_pos rfl, if_pos (by omega), Nat.sub_self, List.getD_cons_zero]
    · by_cases hin : i < j + (bs.length + 1)
      · have hsucc : i - j = i - (j + 1) + 1 := by omega
        rw [if_pos (by omega), if_pos (by omega), hsucc, List.getD_cons_succ]
      · rw [if_neg (by omega), if_neg (by omega), if_neg (by omega)]

theorem State.readBufs_length (s : State) (d : DescId) (i n : Nat) : (s.readBufs d i n).length = n := by
  simp [State.readBufs]

theorem State.readBufs_getD (s : State) (d : DescId) {n i : Nat} (h : i < n) :
    (s.readBufs d 0 n).getD i 0#8 = s.readBuf d i := by
  simp [State.readBufs, List.getD_eq_getElem?_getD, h]

theorem State.storeOut_eq (s : State) (k : Nat) : s.storeOut k = { s with lc := (s.storeOut k).lc } := by
  unfold State.storeOut
  split <;> rfl

theorem State.storeOut_lc_length (s : State) (k : Nat) : (s.storeOut k).lc.length = s.lc.length := by
  unfold State.storeOut
  split
  · exact storeLc_length _ _ _
  · rfl

/-- The accepted bytes land from `ctl.offset` on; the record has 7 places. -/
theorem State.storeOut_lc_getD {s : State} (hlen : s.lc.length = 7) (k : Nat) {i : Nat} (hi : i < 7) :
    (s.storeOut k).lc.getD i 0#8 =
      if s.ctl.dest = some .lc ∧ s.ctl.offset.toNat ≤ i ∧ i < s.ctl.offset.toNat + k then
        s.readBuf .ep0Out (i - s.ctl.offset.toNat)
      else s.lc.getD i 0#8 := by
  unfold State.storeOut
  by_cases hdest : s.ctl.dest = some .lc
  · rw [if_pos hdest]
    refine (storeLc_getD _ s.lc _ i hlen hi).trans ?_
    rw [State.readBufs_length]
    by_cases hplace : s.ctl.offset.toNat ≤ i ∧ i < s.ctl.offset.toNat + k
    · rw [if_pos (by omega), if_pos ⟨hdest, hplace⟩, State.readBufs_getD s _ (by omega)]
    · rw [if_neg (by omega), if_neg fun h => hplace h.2]
  · rw [if_neg hdest, if_neg fun h => hdest h.1]

/-! ### OUT completions -/

/-- How many bytes of the packet are still wanted. -/
def State.outCount (s : State) : Nat := min (s.desc .ep0Out).count.toNat s.ctl.remaining.toNat

/-- The packet is the last of its OUT data stage: it is short, or all is received. -/
def State.outLast (s : State) : Bool :=
  decide ((s.desc .ep0Out).count.toNat < s.cfg.ep0Size.bytes) || decide (s.ctl.remaining.toNat = s.outCount)

/-- The state after the wanted bytes of the packet have been taken. -/
def State.outTaken (s : State) : State :=
  { s with
    lc := (s.storeOut s.outCount).lc
    ctl := { s.ctl with
      offset := s.ctl.offset + BitVec.ofNat 16 s.outCount
      remaining := s.ctl.remaining - BitVec.ofNat 16 s.outCount
      toggle := !s.ctl.toggle } }

/-- The end of a packet of `n` bytes that have been taken: the status IN after the last one, or the next packet. -/
def outEnd (n : Nat) (s : State) : Result :=
  if n < s.cfg.ep0Size.bytes ∨ s.ctl.remaining = 0#16 then
    returnFromInterrupt (s.setCtl { s.ctl with dataStage := false }).statusIn
  else returnFromInterrupt (s.arm .ep0Out s.cfg.ep0Size.bytes s.ctl.toggle)

/-- The state after the step of a packet of an OUT data stage. -/
def State.outEnded (s : State) (dataStage : Bool) : State :=
  { s with
    lc := (s.storeOut s.outCount).lc
    bd := if s.outLast then { s.bd with ep0In := armedBd 0#10 true, ep0Out := armedBd (ep0Count s) false }
          else { s.bd with ep0Out := armedBd (ep0Count s) (!s.ctl.toggle) }
    ctl := { s.ctl with
      dataStage := dataStage
      offset := s.ctl.offset + BitVec.ofNat 16 s.outCount
      remaining := BitVec.ofNat 16 (s.ctl.remaining.toNat - s.outCount)
      toggle := !s.ctl.toggle }
    ret := .none }

section
variable {s : State}

theorem ep0OutComplete_of_otherwise (h : s.ctl.dataStage = false ∨ s.ctl.dirIn = true) :
    ep0OutComplete s =
      .next ((((s.setCtl Ctl.idle).reclaim .ep0In).arm .ep0Out s.cfg.ep0Size.bytes false).setRet .none) :=
  if_neg (by rcases h with h | h <;> simp [h])

/-- The step of a packet of an OUT data stage: its bytes are taken, and then the stage ends or goes on. -/
theorem ep0OutComplete_of_outStage (hstage : s.ctl.dataStage = true) (hout : s.ctl.dirIn = false) :
    ep0OutComplete s = outEnd (s.desc .ep0Out).count.toNat s.outTaken := by
  have htaken : s.outTaken = (s.storeOut s.outCount).setCtl { (s.storeOut s.outCount).ctl with
      offset := (s.storeOut s.outCount).ctl.offset + BitVec.ofNat 16 s.outCount
      remaining := (s.storeOut s.outCount).ctl.remaining - BitVec.ofNat 16 s.outCount
      toggle := !(s.storeOut s.outCount).ctl.toggle } := by
    rw [State.storeOut_eq]
    rfl
  rw [htaken]
  exact if_pos (by simp [hstage, hout])

theorem outEnd_outTaken (s : State) :
    outEnd (s.desc .ep0Out).count.toNat s.outTaken = .next (s.outEnded (s.ctl.dataStage && !s.outLast)) := by
  have hle : s.outCount ≤ s.ctl.remaining.toNat := Nat.min_le_right _ _
  have hlast : s.outLast = true ↔
      (s.desc .ep0Out).count.toNat < s.cfg.ep0Size.bytes ∨ s.ctl.remaining - BitVec.ofNat 16 s.outCount = 0#16 := by
    simp [State.outLast, sub_ofNat_eq_zero_iff hle]
  rw [State.outEnded, ← sub_ofNat_of_le hle]
  by_cases h : s.outLast = true
  · rw [h, Bool.not_true, Bool.and_false]
    exact if_pos (hlast.mp h)
  · rw [Bool.eq_false_iff.mpr h, Bool.not_false, Bool.and_true]
    exact if_neg (mt hlast.mpr h)

theorem ep0OutComplete_record (hstage : s.ctl.dataStage = true) (hout : s.ctl.dirIn = false) :
    ep0OutComplete s = .next (s.outEnded (!s.outLast)) := by
  rw [ep0OutComplete_of_outStage hstage hout, outEnd_outTaken, hstage, Bool.true_and]

end

/-- Settles O21: the two branches of R226, and in an OUT data stage the place of every stored byte. -/
theorem outCompletionTakesDataOrEndsTheTransfer : Obligations.OutCompletionTakesDataOrEndsTheTransfer := by
  intro s half rest h htrn
  have hrun : exec .irq s = ep0OutComplete (s.setTrn rest) := exec_irq_completion h htrn
  refine ⟨fun hother => hrun.trans (ep0OutComplete_of_otherwise (s := s.setTrn rest) hother),
    fun hstage hout hlen => ?_⟩
  refine ⟨_, hrun.trans (ep0OutComplete_record (s := s.setTrn rest) hstage hout), rfl, ?_, fun i hi => ?_⟩
  · exact (State.storeOut_lc_length _ _).trans hlen
  · exact State.storeOut_lc_getD (s := s.setTrn rest) hlen _ hi

end Sys2Proof.Machine
end

section
/-! A whole IN data stage (41_control_transfer.md R200, R203, R224, R225, R228, R229): the packets of a source, and the
invariant that the rounds of a host that takes every packet keep. -/

namespace Sys2Proof.Machine

open Sys2Proof.Statements

/-! ### The number of packets (R224) -/

section
variable {n size : Nat}

theorem ep0Size_bytes_pos (z : Ep0Size) : 0 < z.bytes := by
  cases z <;> decide

theorem succ_lt_packetsOf_iff (hsize : 0 < size) (j : Nat) : j + 1 < packetsOf n size ↔ (j + 1) * size < n := by
  unfold packetsOf
  split
  · rename_i hzero
    simp [hzero]
  · rename_i hpos
    have hceil : j + 1 < (n + size - 1) / size ↔ (j + 1 + 1) * size ≤ n + size - 1 := Nat.le_div_iff_mul_le hsize
    rw [hceil, Nat.succ_mul (j + 1)]
    omega

theorem packetsOf_pos (hsize : 0 < size) : 0 < packetsOf n size := by
  unfold packetsOf
  split
  · exact Nat.one_pos
  · exact Nat.div_pos (by omega) hsize

theorem packetsOf_sub (hsize : 0 < size) (h : size < n) : packetsOf n size = packetsOf (n - size) size + 1 := by
  have hsplit : n + size - 1 = (n - size + size - 1) + size := by omega
  rw [packetsOf, packetsOf, if_neg (by omega), if_neg (by omega), hsplit, Nat.add_div_right _ hsize]

theorem le_packetsOf_mul (hsize : 0 < size) : n ≤ packetsOf n size * size := by
  obtain ⟨j, hj⟩ := Nat.exists_eq_add_of_lt (packetsOf_pos (n := n) hsize)
  have hlast := (succ_lt_packetsOf_iff (n := n) hsize j).not
  rw [Nat.zero_add] at hj
  rw [hj] at hlast ⊢
  exact Nat.le_of_not_lt (hlast.mp (lt_irrefl _))

end

/-! ### The packets of a source -/

/-- The first `k` packets of endpoint 0 that carry `bytes`, `size` at a time, with alternating toggles from `dts`. -/
def inPackets (size : Nat) : Nat → Bit → List Byte → List Packet
  | 0, _, _ => []
  | k + 1, dts, bytes =>
    { ep := .ep0, dts := dts, data := bytes.take size } :: inPackets size k (!dts) (bytes.drop size)

section
variable (size k : Nat) (dts : Bit) (bytes : List Byte)

theorem inPackets_length : (inPackets size k dts bytes).length = k := by
  induction k generalizing dts bytes with
  | zero => rfl
  | succ k ih => rw [inPackets, List.length_cons, ih]

theorem inPackets_flatten : ((inPackets size k dts bytes).map Packet.data).flatten = bytes.take (k * size) := by
  induction k generalizing dts bytes with
  | zero => simp [inPackets]
  | succ k ih => rw [inPackets, List.map_cons, List.flatten_cons, ih, Nat.succ_mul, Nat.add_comm, List.take_add]

theorem inPackets_getElem (j : Nat) (hj : j < (inPackets size k dts bytes).length) :
    (inPackets size k dts bytes)[j] =
      { ep := .ep0, dts := dts == decide (j % 2 = 0), data := (bytes.drop (j * size)).take size } := by
  induction k generalizing dts bytes j with
  | zero => exact absurd hj (Nat.not_lt_zero j)
  | succ k ih =>
    cases j with
    | zero => simp [inPackets]
    | succ j =>
      have hparity : decide ((j + 1) % 2 = 0) = !decide (j % 2 = 0) := by
        rw [← decide_not, decide_eq_decide]
        omega
      have htail := ih (!dts) (bytes.drop size) j (Nat.lt_of_succ_lt_succ hj)
      have hflip : ((!dts) == decide (j % 2 = 0)) = (dts == !decide (j % 2 = 0)) := by simp
      rw [hparity, ← hflip, Nat.succ_mul, Nat.add_comm (j * size), ← List.drop_drop]
      exact htail

end

/-! ### A data stage under way -/

/-- A default-state device that is not suspended, with nothing queued, and on which only TRN can interrupt. -/
structure State.BetweenRounds (s : State) : Prop where
  connected : s.dev.state = .default
  awake : s.dev.suspended = false
  quiet : s.OnlyTrnPending
  queue : s.irq.trn = []

theorem State.BetweenRounds.of_frame {s t : State} (h : s.BetweenRounds) (hdev : t.dev = s.dev) (hirq : t.irq = s.irq) :
    t.BetweenRounds := by
  obtain ⟨hconnected, hawake, ⟨henable, hattached, hmask, hpending⟩, hqueue⟩ := h
  rw [← hdev] at hconnected hawake hattached
  rw [← hirq] at henable hmask hpending hqueue
  exact ⟨hconnected, hawake, ⟨henable, hattached, hmask, hpending⟩, hqueue⟩

/-- An IN data stage has its next packet armed: `bytes` is what the host has not taken yet, and the packet carries the
first of them with the toggle `dts`. -/
structure State.Sends (s : State) (dts : Bit) (bytes : List Byte) : Prop where
  between : s.BetweenRounds
  armed : s.bd.ep0In = armedBd (BitVec.ofNat 10 (min bytes.length s.cfg.ep0Size.bytes)) dts
  stored : ((List.range (min bytes.length s.cfg.ep0Size.bytes)).map fun i => s.readBuf .ep0In i) =
    bytes.take s.cfg.ep0Size.bytes
  stage : s.ctl.dataStage = true
  dirIn : s.ctl.dirIn = true
  toggle : s.ctl.toggle = !dts
  remaining : s.ctl.remaining.toNat = bytes.length - s.cfg.ep0Size.bytes
  source : ((srcBytes s s.ctl.src).drop s.ctl.offset.toNat).take s.ctl.remaining.toNat =
    bytes.drop s.cfg.ep0Size.bytes
  inSource : s.ctl.offset.toNat + s.ctl.remaining.toNat < 2 ^ 16
  inDone : s.ctl.inDone = decide (bytes.length ≤ s.cfg.ep0Size.bytes)

/-- After a packet of `bytes`, which stand in the source from `a` on, has been armed, the stage is under way. -/
theorem State.Sends.of_sent {s t : State} {dts : Bit} {bytes : List Byte} {c : Ctl} {a k : Nat}
    (hbetween : t.BetweenRounds) (hstage : c.dataStage = true) (hdirIn : c.dirIn = true)
    (hk : k = min bytes.length t.cfg.ep0Size.bytes) (harmed : t.bd.ep0In = armedBd (BitVec.ofNat 10 k) dts)
    (hstored : storedAt s t .ep0In (bytes.take k))
    (hctl : t.ctl = { c with
      toggle := !dts, remaining := BitVec.ofNat 16 (bytes.length - k), offset := BitVec.ofNat 16 (a + k)
      inDone := decide (k < t.cfg.ep0Size.bytes) || decide (bytes.length - k = 0) })
    (hsource : ((srcBytes t t.ctl.src).drop a).take bytes.length = bytes) (hin : a + bytes.length < 2 ^ 16) :
    t.Sends dts bytes := by
  have hsize := ep0Size_bytes_le t.cfg.ep0Size
  have hremaining : t.ctl.remaining.toNat = bytes.length - k := by
    rw [hctl]
    exact (BitVec.toNat_ofNat _ _).trans (Nat.mod_eq_of_lt (by omega))
  have hoffset : t.ctl.offset.toNat = a + k := by
    rw [hctl]
    exact (BitVec.toNat_ofNat _ _).trans (Nat.mod_eq_of_lt (by omega))
  have hclip : bytes.length - k = bytes.length - t.cfg.ep0Size.bytes := by omega
  refine ⟨hbetween, hk ▸ harmed, ?_, by rw [hctl, hstage], by rw [hctl, hdirIn], by rw [hctl],
    hremaining.trans hclip, ?_, by omega, ?_⟩
  · have hread := map_readBuf_of_storedAt hstored (by rw [List.length_take]; omega)
    rw [List.length_take, show min k bytes.length = min bytes.length t.cfg.ep0Size.bytes by omega] at hread
    rw [hread, List.take_eq_take_iff]
    omega
  · rw [hremaining, hoffset, ← List.drop_drop]
    by_cases hlast : bytes.length ≤ t.cfg.ep0Size.bytes
    · rw [show bytes.length - k = 0 by omega, List.take_zero, List.drop_eq_nil_of_le hlast]
    · rw [show k = t.cfg.ep0Size.bytes by omega, ← List.drop_take, hsource]
  · rw [hctl]
    show (decide _ || decide _) = _
    rw [← Bool.decide_or, decide_eq_decide]
    omega

/-! ### One round -/

/-- The packet that a data stage under way has armed. -/
def State.armedPacket (s : State) (dts : Bit) (bytes : List Byte) : Packet :=
  { ep := .ep0, dts := dts, data := bytes.take s.cfg.ep0Size.bytes }

/-- The state after the host has taken the packet `p`, the armed one (R163). -/
def State.packetTaken (s : State) (p : Packet) : State :=
  { s with
    bd := { s.bd with ep0In := { s.bd.ep0In with own := .firmware } }
    wireIn := s.wireIn ++ [p]
    irq := { s.irq with trn := [{ kind := .inp, ep := .ep0, half := false }] }
    ret := .none }

section
variable {s : State} {dts : Bit} {bytes : List Byte}

theorem State.Sends.exec_evTrnIn (h : s.Sends dts bytes) :
    exec (.evTrnIn .ep0 false) s = .next (s.packetTaken (s.armedPacket dts bytes)) := by
  obtain ⟨⟨hconnected, hawake, hquiet, hqueue⟩, harmed, hstored, -⟩ := h
  have hsize := ep0Size_bytes_le s.cfg.ep0Size
  have hcount : s.bd.ep0In.count.toNat = min bytes.length s.cfg.ep0Size.bytes := by
    rw [harmed]
    exact (BitVec.toNat_ofNat _ _).trans (Nat.mod_eq_of_lt (by omega))
  obtain ⟨hact, -⟩ := inActsPutThePacketOnTheWire s hconnected (by rw [hquiet.pending])
  refine (hact (by rw [harmed]; rfl) (by rw [harmed]; rfl) (by omega)).trans ?_
  rw [hcount, hstored, hqueue, hawake, Bool.or_false, show s.bd.ep0In.dts = dts by rw [harmed]; rfl]
  rfl

theorem State.BetweenRounds.irqTakes_packetTaken (h : s.BetweenRounds) (p : Packet) :
    irqTakes (s.packetTaken p) .trn :=
  irqTakes_trn_of_onlyTrnPending ⟨h.quiet.enable, h.quiet.attached, h.quiet.mask, h.quiet.pending⟩
    (List.cons_ne_nil _ _)

/-- After the last packet the handler has nothing to send (R225). -/
theorem State.Sends.exec_irq_last (h : s.Sends dts bytes) (hlast : bytes.length ≤ s.cfg.ep0Size.bytes) (p : Packet) :
    ∃ u, exec .irq (s.packetTaken p) = .next u ∧ u.wireIn = s.wireIn ++ [p] ∧ u.ctl.inDone = true := by
  have hdone : s.ctl.inDone = true := h.inDone.trans (decide_eq_true hlast)
  obtain ⟨-, -, hend, -⟩ := inCompletionSendsOnOrAppliesTheAddress (s.packetTaken p) false []
    (h.between.irqTakes_packetTaken p) rfl
  exact ⟨_, hend h.stage h.dirIn hdone, rfl, hdone⟩

/-- Before the last packet the handler arms the next one (R225). -/
theorem State.Sends.exec_irq_next (h : s.Sends dts bytes) (hmore : s.cfg.ep0Size.bytes < bytes.length) (p : Packet) :
    ∃ u, exec .irq (s.packetTaken p) = .next u ∧ u.wireIn = s.wireIn ++ [p] ∧ u.cfg = s.cfg ∧
      u.Sends (!dts) (bytes.drop s.cfg.ep0Size.bytes) := by
  have hdone : s.ctl.inDone = false := h.inDone.trans (decide_eq_false (Nat.not_le.mpr hmore))
  obtain ⟨-, -, -, -, hsend⟩ := inCompletionSendsOnOrAppliesTheAddress (s.packetTaken p) false []
    (h.between.irqTakes_packetTaken p) rfl
  obtain ⟨u, hrun, hu, hstored⟩ := hsend h.stage h.dirIn hdone
  have hcfg : u.cfg = s.cfg := (congrArg State.cfg hu).trans rfl
  have hlc : u.lc = s.lc := (congrArg State.lc hu).trans rfl
  have hsrc : u.ctl.src = s.ctl.src := (congrArg (fun v : State => v.ctl.src) hu).trans rfl
  have hlength : (bytes.drop s.cfg.ep0Size.bytes).length = s.ctl.remaining.toNat := by
    rw [List.length_drop, h.remaining]
  refine ⟨u, hrun, (congrArg State.wireIn hu).trans rfl, hcfg, ?_⟩
  rw [← h.toggle]
  refine .of_sent (s := s.packetTaken p) (c := s.ctl) (a := s.ctl.offset.toNat)
    (k := min s.ctl.remaining.toNat s.cfg.ep0Size.bytes) ?_ h.stage h.dirIn ?_ ?_ ?_ ?_ ?_ ?_
  · refine h.between.of_frame ((congrArg State.dev hu).trans rfl) ((congrArg State.irq hu).trans ?_)
    rw [← h.between.queue]
    rfl
  · rw [hlength, hcfg]
  · exact (congrArg (fun v : State => v.bd.ep0In) hu).trans rfl
  · rw [← h.source, List.take_take, Nat.min_eq_left (Nat.min_le_left _ _)]
    exact hstored
  · have hleft : decide (s.ctl.remaining.toNat - min s.ctl.remaining.toNat s.cfg.ep0Size.bytes = 0) =
        decide (s.ctl.remaining.toNat = min s.ctl.remaining.toNat s.cfg.ep0Size.bytes) :=
      decide_eq_decide.mpr (by omega)
    refine (congrArg State.ctl hu).trans ?_
    rw [hlength, hcfg, BitVec.ofNat_add, BitVec.ofNat_toNat, BitVec.setWidth_eq, hleft]
    rfl
  · rw [hlength, hsrc, srcBytes_congr hcfg hlc, h.source]
  · rw [hlength]
    exact h.inSource

/-- The rounds up to the last packet put the packets on the wire, one after the other. -/
theorem State.Sends.inRounds_eq (k : Nat) : ∀ {s : State} {dts : Bit} {bytes : List Byte}, s.Sends dts bytes →
    packetsOf bytes.length s.cfg.ep0Size.bytes = k + 1 →
    ∃ u, inRounds (k + 1) s = some u ∧ u.wireIn = s.wireIn ++ inPackets s.cfg.ep0Size.bytes (k + 1) dts bytes ∧
      u.ctl.inDone = true := by
  induction k with
  | zero =>
    intro s dts bytes h hcount
    have hlast : bytes.length ≤ s.cfg.ep0Size.bytes := by
      have hle := le_packetsOf_mul (n := bytes.length) (ep0Size_bytes_pos s.cfg.ep0Size)
      rwa [hcount, Nat.one_mul] at hle
    obtain ⟨u, hrun, hwire, hdone⟩ := h.exec_irq_last hlast (s.armedPacket dts bytes)
    refine ⟨u, ?_, hwire, hdone⟩
    simp [inRounds, h.exec_evTrnIn, hrun]
  | succ k ih =>
    intro s dts bytes h hcount
    have hmore : s.cfg.ep0Size.bytes < bytes.length := by
      have hlt := (succ_lt_packetsOf_iff (n := bytes.length) (ep0Size_bytes_pos s.cfg.ep0Size) 0).mp (by omega)
      rwa [Nat.zero_add, Nat.one_mul] at hlt
    obtain ⟨t, hrun, hwire, hcfg, hnext⟩ := h.exec_irq_next hmore (s.armedPacket dts bytes)
    have hrest : packetsOf (bytes.drop s.cfg.ep0Size.bytes).length t.cfg.ep0Size.bytes = k + 1 := by
      rw [packetsOf_sub (ep0Size_bytes_pos s.cfg.ep0Size) hmore] at hcount
      rw [hcfg, List.length_drop]
      exact Nat.succ.inj hcount
    obtain ⟨u, hrounds, hsent, hdone⟩ := ih hnext hrest
    refine ⟨u, ?_, ?_, hdone⟩
    · rw [inRounds, h.exec_evTrnIn]
      simp only [hrun, hrounds]
    · rw [hsent, hwire, hcfg, List.append_assoc]
      rfl

end

/-! ### The whole stage -/

/-- A request starts its IN data stage with the source clipped to wLength to be sent, first with DATA1 (R203, R228). -/
theorem sends_of_inStarted {s t : State} {kind : SrcKind} {src : Src} {w : Word} (hbetween : s.BetweenRounds)
    (h : inStarted s kind src (srcBytes s src) w t) :
    t.Sends true ((srcBytes s src).take (min (srcBytes s src).length w.toNat)) := by
  obtain ⟨ht, hstored⟩ := h
  have hw := w.isLt
  have hlength : ((srcBytes s src).take (min (srcBytes s src).length w.toNat)).length =
      min (srcBytes s src).length w.toNat := by rw [List.length_take]; omega
  have hcfg : t.cfg = s.cfg := (congrArg State.cfg ht).trans rfl
  have hsrc : t.ctl.src = src := (congrArg (fun v : State => v.ctl.src) ht).trans rfl
  refine .of_sent (s := s) (c := { Ctl.idle with dataStage := true, dirIn := true, srcKind := kind, src := src })
    (a := 0) (k := min (min (srcBytes s src).length w.toNat) s.cfg.ep0Size.bytes)
    (hbetween.of_frame ((congrArg State.dev ht).trans rfl) ((congrArg State.irq ht).trans rfl)) rfl rfl
    ?_ ?_ ?_ ?_ ?_ ?_
  · rw [hlength, hcfg]
  · exact (congrArg (fun v : State => v.bd.ep0In) ht).trans rfl
  · rw [List.take_take, Nat.min_eq_left (Nat.min_le_left _ _)]
    exact hstored
  · refine (congrArg State.ctl ht).trans ?_
    rw [hlength, hcfg, Nat.zero_add]
    rfl
  · rw [hlength, hsrc, srcBytes_congr hcfg ((congrArg State.lc ht).trans rfl), List.drop_zero]
  · rw [hlength]
    omega

/-- Settles O38: the request starts the stage, and each round sends the first packet of what is left. -/
theorem dataStageSendsTheClippedSource : Obligations.DataStageSendsTheClippedSource := by
  intro s q hvalue hconnected hawake henable hmask hqueue hpending n size
  have hquiet : s.OnlyTrnPending := ⟨henable, by simp [hconnected], hmask, hpending⟩
  have hsize : 0 < size := ep0Size_bytes_pos s.cfg.ep0Size
  obtain ⟨-, -, hconfig, -⟩ := inRequestsSendTheirFirstPacket s q
  obtain ⟨t, hrun, hstarted⟩ := hconfig hvalue
  have hsends : t.Sends true (s.cfg.descConfig.take n) :=
    sends_of_inStarted (src := .config) ⟨hconnected, hawake, hquiet, hqueue⟩ hstarted
  obtain ⟨ht, -⟩ := hstarted
  have hcfg : t.cfg = s.cfg := (congrArg State.cfg ht).trans rfl
  have hlength : (s.cfg.descConfig.take n).length = n := by
    rw [List.length_take]
    exact Nat.min_eq_left (Nat.min_le_left _ _)
  obtain ⟨k, hk⟩ : ∃ k, packetsOf n size = k + 1 := Nat.exists_eq_add_one.mpr (packetsOf_pos hsize)
  obtain ⟨u, hrounds, hwire, hdone⟩ := hsends.inRounds_eq k (by rw [hlength, hcfg, hk])
  rw [hcfg] at hwire
  refine ⟨t, u, inPackets size (k + 1) true (s.cfg.descConfig.take n), hrun, by rw [hk, hrounds], ?_, ?_, ?_, ?_, hdone⟩
  · rw [hwire, (congrArg State.wireIn ht).trans rfl]
  · rw [inPackets_length, hk]
  · rw [inPackets_flatten, List.take_take, ← hk, Nat.min_eq_right (le_packetsOf_mul hsize)]
  · intro j hj
    rw [inPackets_getElem]
    refine ⟨rfl, Bool.true_beq _, List.length_take_le _ _, fun hmore => ?_⟩
    rw [inPackets_length, ← hk, succ_lt_packetsOf_iff hsize, Nat.succ_mul] at hmore
    rw [List.length_take, List.length_drop, hlength]
    omega

end Sys2Proof.Machine
end

section
/-! A locked session (43_command_protocol.md R324, R346, R348): what each step leaves of the session, the stored sequence and
the bus trace while the session is locked, and that it stays away from the lock-required commands. -/

namespace Sys2Proof.Machine

/-! ### What the operations of the port leave of the collateral -/

/-- The session, the stored sequence, the bus trace and the place of the main loop's program. -/
def State.collateral (s : State) : Sess × FlashSeq × List BusOp × MainPoint :=
  (s.sess, s.flashseq, s.busTrace, s.main.point)

/-- What resets the device: RESET_EXEC, awake and with a reset staged, or WATCHDOG during a flash poll (R298, R347). -/
def ResetCause (i : Instr) (s : State) : Prop :=
  (i = .resetExec ∧ s.main.asleep = false ∧ s.dev.pendingReset = true) ∨ (i = .watchdog ∧ s.sess.poll ≠ none)

/-- What an operation of the port may make of the collateral: nothing, a bus reset of the parser (R166), or a device reset. -/
inductive CollateralMove (i : Instr) (s t : State) : Prop
  | kept (h : t.collateral = s.collateral)
  | busReset (h : t.collateral = (s.sess.busReset, s.flashseq, s.busTrace, s.main.point))
  | deviceReset (hcause : ResetCause i s) (ht : t = s.deviceReset.setRet .none)

section
variable {i : Instr} {s t u : State}

theorem CollateralMove.of_frame {frame : State} (h : t = frame) (hframe : frame.collateral = s.collateral) :
    CollateralMove i s t :=
  .kept (h ▸ hframe)

theorem CollateralMove.of_next (h : (.next u : Result) = .next t) (hu : CollateralMove i s u) : CollateralMove i s t :=
  Host.Outcome.next.inj h ▸ hu

theorem CollateralMove.of_whenEnabled {e : Bool} {r : Result} (h : whenEnabled e s r = .next t)
    (hr : r = .next t → CollateralMove i s t) : CollateralMove i s t := by
  rcases whenEnabled_next h with ⟨-, h⟩ | ⟨-, rfl⟩
  · exact hr h
  · exact .kept rfl

theorem CollateralMove.of_whenAwake {r : Result} (h : whenAwake s r = .next t)
    (hr : r = .next t → CollateralMove i s t) : CollateralMove i s t := by
  rcases whenAwake_next h with ⟨-, h⟩ | ⟨-, rfl⟩
  · exact hr h
  · exact .kept rfl

@[simp] theorem State.noteActivity_collateral (s : State) : s.noteActivity.collateral = s.collateral := by
  simp [State.collateral]

theorem execEvTrnSetup_collateralMove {packet : List Byte} (h : execEvTrnSetup packet s = .next t) :
    CollateralMove i s t :=
  .of_whenEnabled h fun h => .of_next h (.kept ((State.noteActivity_collateral _).trans (by simp [State.collateral])))

theorem execEvTrnOut_collateralMove {ep : Endpoint} {half : Bit} {data : List Byte}
    (h : execEvTrnOut ep half data s = .next t) : CollateralMove i s t := by
  cases ep with
  | notif => exact .of_whenEnabled h fun h => .of_next h (.kept rfl)
  | ep0 | bulk =>
    refine .of_whenEnabled h fun h => .of_next h (.kept ?_)
    exact (State.noteActivity_collateral _).trans (by simp [State.collateral])

theorem execEvTrnIn_collateralMove {ep : Endpoint} {half : Bit} (h : execEvTrnIn ep half s = .next t) :
    CollateralMove i s t := by
  cases ep with
  | notif => exact .of_whenEnabled h fun h => .of_next h (.kept rfl)
  | ep0 | bulk =>
    exact .of_whenEnabled h fun h => .of_next (withinBuffer_next h) (.kept (State.noteActivity_collateral _))

theorem collateral_of_onEp0 (h : OnEp0 s t) : t.collateral = s.collateral := by
  induction h with
  | refl => rfl
  | bytes _ bs _ ih => exact (by simp [State.collateral] : _ = _).trans ih
  | _ => assumption

theorem collateral_of_setupStep {j : Instr} (h : SetupStep s j t) : t.collateral = s.collateral := by
  rcases h.cases with h | ⟨-, u, hu, h⟩
  · exact collateral_of_onEp0 h
  · have hpipe : u.pipeSetup.collateral = u.collateral ∧ u.pipeTeardown.collateral = u.collateral := by
      simp [State.collateral]
    rcases h with h | h
    · exact (collateral_of_onEp0 h).trans (hpipe.1.trans (collateral_of_onEp0 hu))
    · exact (collateral_of_onEp0 h).trans (hpipe.2.trans (collateral_of_onEp0 hu))

theorem collateral_of_handleCompletion {e : Completion} (h : handleCompletion e s = .next t) :
    t.collateral = s.collateral := by
  rcases handleCompletion_next h with ⟨-, h | ⟨j, h⟩⟩ | ⟨-, h⟩ | ⟨-, h⟩
  · exact collateral_of_onEp0 h
  · exact collateral_of_setupStep h
  · obtain ⟨-, -, -, rfl⟩ := bulkOutComplete_next h
    rfl
  · obtain ⟨-, -, -, rfl⟩ := bulkInComplete_next h
    rfl

/-- The bus-reset initialisation touches only the parser of the session (R166). -/
theorem State.usbResetInit_collateral (s : State) :
    s.usbResetInit.collateral = (s.sess.busReset, s.flashseq, s.busTrace, s.main.point) := by
  rw [State.usbResetInit_eq]
  rfl

theorem execIrq_collateralMove (h : execIrq s = .next t) : CollateralMove i s t := by
  rcases execIrq_next h with rfl | ⟨-, src, -, h⟩
  · exact .kept rfl
  · cases src with
    | trn =>
      rcases handleTrn_next h with rfl | ⟨e, rest, -, h⟩
      · exact .kept rfl
      · exact .kept ((collateral_of_handleCompletion h).trans rfl)
    | reset => exact .of_next h (.busReset s.usbResetInit_collateral)
    | idle | error => exact .of_next h (.kept rfl)
    | activity =>
      change handleActivity s = .next t at h
      unfold handleActivity at h
      dsimp only at h
      split at h <;> exact .of_next h (.kept rfl)

/-- What an operation of the port may make of the collateral. -/
theorem port_collateralMove (hi : i.ofPort) (h : exec i s = .next t) : CollateralMove i s t := by
  cases i, hi using Instr.ofPort_elim with
  | evSe0Exit | evActivity => exact .of_whenEnabled h fun h => .of_next h (.kept rfl)
  | evBusReset | evIdle | evError classes =>
    exact .of_whenEnabled h fun h => .of_next h (.kept (State.noteActivity_collateral _))
  | evTrnSetup packet => exact execEvTrnSetup_collateralMove h
  | evTrnOut ep half data => exact execEvTrnOut_collateralMove h
  | evTrnIn ep half => exact execEvTrnIn_collateralMove h
  | attach =>
    refine .of_whenAwake h fun h => ?_
    split at h
    · exact .of_next h (.busReset s.usbResetInit_collateral)
    · exact .of_next h (.kept rfl)
  | acqRx => exact .of_frame (execAcqRx_frame h) rfl
  | rxRead index => exact .of_frame (execRxRead_frame h) rfl
  | rxTake count => exact .of_frame (execRxTake_frame h) rfl
  | acqTx => exact .of_frame (execAcqTx_frame h) rfl
  | txPut byte => exact .of_frame (execTxPut_frame h) rfl
  | flush => exact .of_frame (execFlush_frame h) rfl
  | isActive | csEnter => exact .of_whenAwake h fun h => .of_next h (.kept rfl)
  | csExit => rcases execCsExit_next h with ⟨saved, rest, -, rfl⟩ | rfl <;> exact .kept rfl
  | sleep =>
    refine .of_whenAwake h fun h => .of_next h (.kept ?_)
    split <;> rfl
  | resetExec =>
    rcases whenAwake_next h with ⟨hawake, h⟩ | ⟨-, rfl⟩
    · obtain rfl := Host.Outcome.next.inj h
      split
      · rename_i hstaged
        exact .deviceReset (.inl ⟨rfl, hawake, hstaged⟩) rfl
      · exact .kept rfl
    · exact .kept rfl
  | irq => exact execIrq_collateralMove h
  | watchdog =>
    rcases execWatchdog_next h with ⟨hpoll, rfl⟩ | ⟨r, rfl⟩
    · exact .deviceReset (.inr ⟨rfl, hpoll⟩) rfl
    · exact .kept rfl

theorem CollateralMove.lockSafe (h : CollateralMove i s t) (hs : s.lockSafe) : t.lockSafe := by
  cases h with
  | kept h =>
    simp only [State.collateral, Prod.mk.injEq] at h
    obtain ⟨hsess, -, -, hpoint⟩ := h
    unfold State.lockSafe
    rwa [hsess, hpoint]
  | busReset h =>
    simp only [State.collateral, Prod.mk.injEq] at h
    obtain ⟨hsess, -, -, hpoint⟩ := h
    unfold State.lockSafe
    rw [hsess, hpoint]
    exact fun hlocked => ⟨rfl, (hs hlocked).2.1, .inl rfl⟩
  | deviceReset _ ht =>
    subst ht
    exact fun _ => ⟨rfl, rfl, .inl rfl⟩

end

/-! ### Confined moves: what the dispatcher may do while the session is locked -/

/-- The lock is safe after the move, and nothing of the bus, the mode and the stored sequence has changed. -/
structure State.Confined (s t : State) : Prop where
  safe : t.lockSafe
  busTrace : t.busTrace = s.busTrace
  mode : t.sess.mode = s.sess.mode
  flashseq : t.flashseq = s.flashseq

section
variable {i : Instr} {s t u : State}

theorem State.Confined.refl (hs : s.lockSafe) : s.Confined s := ⟨hs, rfl, rfl, rfl⟩

theorem State.Confined.trans (h : s.Confined t) (k : t.Confined u) : s.Confined u :=
  ⟨k.safe, k.busTrace.trans h.busTrace, k.mode.trans h.mode, k.flashseq.trans h.flashseq⟩

theorem State.Confined.of_next (h : (.next u : Result) = .next t) (hu : s.Confined u) : s.Confined t :=
  Host.Outcome.next.inj h ▸ hu

/-- The program moves to a place outside the streams. -/
theorem at_confined (hs : s.lockSafe) {p : MainPoint} (hp : p.streams = false) : s.Confined (s.at p) :=
  ⟨fun hlocked => ⟨(hs hlocked).1, hp, (hs hlocked).2.2⟩, rfl, rfl, rfl⟩

theorem finishCommand_confined (hs : s.lockSafe) : s.Confined s.finishCommand :=
  ⟨fun hlocked => ⟨rfl, (hs hlocked).2.1, .inl rfl⟩, rfl, rfl, rfl⟩

theorem finishCommand_at_confined (hs : s.lockSafe) {p : MainPoint} (hp : p.streams = false) :
    s.Confined (s.finishCommand.at p) :=
  (finishCommand_confined hs).trans (at_confined (finishCommand_confined hs).safe hp)

theorem setOut_confined (hs : s.lockSafe) (bs : List Byte) : s.Confined (s.setOut bs) := by
  unfold State.setOut
  split
  · exact finishCommand_confined hs
  · exact ⟨hs, rfl, rfl, rfl⟩

/-- No command without the lock has a stream. -/
theorem streamPoint_of_lockFree (h : lockRequired (commandId s.sess.cmd) = false) :
    s.streamPoint = s.finishAndAwait := by
  unfold lockRequired at h
  unfold State.streamPoint
  generalize (commandId s.sess.cmd).toNat = n at h ⊢
  split
  case h_5 => rfl
  all_goals cases h

/-- While locked, `dispatch_step()` goes to no stream (R322, R324, R328). -/
theorem dispatchPoint_confined (hs : s.lockSafe) (hlocked : s.sess.unlocked = false) : s.Confined s.dispatchPoint := by
  unfold State.dispatchPoint
  split
  · exact at_confined hs rfl
  · exact at_confined hs rfl
  · rename_i hphase
    split
    · exact at_confined hs rfl
    · split
      · obtain ⟨-, -, hawait | hfree⟩ := hs hlocked
        · cases hphase.symm.trans hawait
        · rw [streamPoint_of_lockFree hfree]
          exact finishCommand_at_confined hs rfl
      · split
        · exact at_confined hs rfl
        · exact finishCommand_at_confined hs rfl

/-- An unlocked session is safe, and `dispatch_step()` up to its next call has no bus operation. -/
theorem dispatchPoint_confined_of_unlocked (hunlocked : s.sess.unlocked = true) : s.Confined s.dispatchPoint := by
  have hsafe : s.dispatchPoint.lockSafe := fun hlocked =>
    nomatch hlocked.symm.trans ((unlocked_of_lasting s.dispatchPoint_lasting).trans hunlocked)
  rcases s.dispatchPoint_cases with ⟨p, h⟩ | h | h <;> rw [h] at hsafe ⊢ <;> exact ⟨hsafe, rfl, rfl, rfl⟩

/-! ### Commands while locked (R324, R326, R346) -/

/-- A command that starts, or does not, while locked: one of the lock's ids is discarded at a command boundary, and no other
does more than its own work. -/
theorem startCommand_confined {id : BitVec 5} {mods : BitVec 3} {header : List Byte} {f : State → State}
    (h : startCommand id mods header f s = .next t) (hs : s.lockSafe) (hlocked : s.sess.unlocked = false)
    (hheader : s.sess.phase = .header → lockRequired id = false)
    (hf : lockRequired id = false → ∀ u : State, u.lockSafe → u.Confined (f u)) : s.Confined t := by
  obtain ⟨hpoll, hpoint, -⟩ := hs hlocked
  unfold startCommand at h
  have hbegun (hfree : lockRequired id = false) : s.Confined (f (s.enterExec (mkCommand mods id) header)) := by
    have hentered : s.Confined (s.enterExec (mkCommand mods id) header) := by
      refine ⟨fun _ => ⟨hpoll, hpoint, .inr ?_⟩, rfl, rfl, rfl⟩
      exact (congrArg lockRequired (commandId_mkCommand mods id)).trans hfree
    exact hentered.trans (hf hfree _ hentered.safe)
  split at h
  · split at h
    · exact .of_next h ⟨hs, rfl, rfl, rfl⟩
    · rename_i hfree
      have hfree : lockRequired id = false := by simpa [hlocked] using hfree
      obtain ⟨hsafe, hbus, hmode, hseq⟩ := hbegun hfree
      exact .of_next h ⟨hsafe, hbus, hmode, hseq⟩
  · rename_i hphase
    obtain ⟨hsafe, hbus, hmode, hseq⟩ := hbegun (hheader hphase)
    exact .of_next h ⟨hsafe, hbus, hmode, hseq⟩
  · exact .of_next h ⟨hs, rfl, rfl, rfl⟩

theorem execUnlock_confined (u : State) (hu : u.lockSafe) (key : List Byte) :
    u.Confined
      (if key = u.cfg.unlockKey then (u.setSess { u.sess with unlocked := true }).setOut key else u.finishCommand) := by
  split
  · have hopened : u.Confined (u.setSess { u.sess with unlocked := true }) := ⟨nofun, rfl, rfl, rfl⟩
    exact hopened.trans (setOut_confined hopened.safe key)
  · exact finishCommand_confined hu

/-- The id byte of a command image is the one its operation encodes (R127). -/
theorem commandId_of_decodeCommand {c : Byte} {header rest : List Byte} {mods : BitVec 3} {id : BitVec 5}
    (h : decodeCommand (c :: header) = .ok i) (hi : encode Config.params i = commandOf mods id rest) :
    commandId c = id := by
  have himage := hi.symm.trans (isReading_of_decodeCommand (p := Config.params) h).2
  simp only [commandOf, Image.command.injEq, List.cons.injEq] at himage
  rw [← himage.1, commandId_mkCommand]

/-- A command decoded while locked, past a header only as one that needs no lock, is confined. -/
theorem command_confined {c : Byte} {header : List Byte} (hi : decodeCommand (c :: header) = .ok i)
    (h : exec i s = .next t) (hs : s.lockSafe) (hlocked : s.sess.unlocked = false)
    (hheader : s.sess.phase = .header → lockRequired (commandId c) = false) : s.Confined t := by
  have hid {mods : BitVec 3} {id : BitVec 5} {rest : List Byte}
      (he : encode Config.params i = commandOf mods id rest) : s.sess.phase = .header → lockRequired id = false :=
    commandId_of_decodeCommand hi he ▸ hheader
  cases i with
  | ping mods data =>
    exact startCommand_confined (f := fun u => u.setOut data) h hs hlocked (hid rfl) fun _ _ hu => setOut_confined hu data
  | unlock mods key =>
    dsimp only [exec] at h
    exact startCommand_confined h hs hlocked (hid rfl) fun _ u hu => execUnlock_confined u hu key
  | diagnostics mods | identify mods =>
    dsimp only [exec] at h
    exact startCommand_confined h hs hlocked (hid rfl) fun _ _ hu => setOut_confined hu _
  | setMode | getMode | read | readBurst | write | writeBurst | pollFlashData | setFlashWriteSequence | flashBurst
  | reset =>
    dsimp only [exec] at h
    exact startCommand_confined h hs hlocked (hid rfl) nofun
  | _ => cases (decodeCommand_isCommand hi).1

theorem beginCommand_confined {c : Byte} {header : List Byte} (h : beginCommand (c :: header) s = .next t)
    (hs : s.lockSafe) (hlocked : s.sess.unlocked = false)
    (hheader : s.sess.phase = .header → lockRequired (commandId c) = false) : s.Confined t := by
  unfold beginCommand at h
  split at h
  · rename_i hi
    exact command_confined hi h hs hlocked hheader
  · exact .of_next h (finishCommand_confined hs)

/-- The id byte opens a header only for a command that needs no lock (R324). -/
theorem startCommandByte_confined {b : Byte} (h : startCommandByte b s = .next t) (hs : s.lockSafe)
    (hlocked : s.sess.unlocked = false) : s.Confined t := by
  unfold startCommandByte at h
  split at h
  · exact .of_next h (.refl hs)
  · split at h
    · exact .of_next h (.refl hs)
    · rename_i hfree
      have hfree : lockRequired (commandId b) = false := by simpa [hlocked] using hfree
      split at h
      · exact beginCommand_confined h hs hlocked fun _ => hfree
      · obtain ⟨hpoll, hpoint, -⟩ := hs hlocked
        exact .of_next h ⟨fun _ => ⟨hpoll, hpoint, .inr hfree⟩, rfl, rfl, rfl⟩

theorem headerByte_confined {b : Byte} (h : headerByte b s = .next t) (hs : s.lockSafe)
    (hlocked : s.sess.unlocked = false) : s.Confined t := by
  have hstored : s.Confined (s.storeHeader b) := ⟨hs, rfl, rfl, rfl⟩
  unfold headerByte at h
  dsimp only at h
  split at h
  · refine hstored.trans (beginCommand_confined h hstored.safe hlocked fun hphase => ?_)
    obtain ⟨-, -, hawait | hfree⟩ := hs hlocked
    · cases hawait.symm.trans hphase
    · exact hfree
  · exact .of_next h hstored

theorem useByte_confined {use : RxUse} {b : Byte} (h : useByte use b s = .next t) (huse : use.streams = false)
    (hs : s.lockSafe) (hlocked : s.sess.unlocked = false) : s.Confined t := by
  cases use with
  | id => exact startCommandByte_confined h hs hlocked
  | header => exact headerByte_confined h hs hlocked
  | writeBurst | writeSequence | flashBurst => cases huse

/-! ### The main loop while locked (R321-R323, R328) -/

theorem afterActive_confined (hs : s.lockSafe) (hlocked : s.sess.unlocked = false) : s.Confined s.afterActive := by
  unfold State.afterActive
  split
  · exact dispatchPoint_confined hs hlocked
  · split
    · exact finishCommand_at_confined hs rfl
    · split <;> exact finishCommand_at_confined hs rfl

theorem afterRxAcq_confined (hs : s.lockSafe) {use : RxUse} (huse : use.streams = false) :
    s.Confined (s.afterRxAcq use) := by
  unfold State.afterRxAcq
  split
  · exact at_confined hs huse
  · exact at_confined hs huse
  · exact at_confined hs rfl

theorem afterRxAcqAgain_confined (hs : s.lockSafe) {use : RxUse} (huse : use.streams = false) :
    s.Confined (s.afterRxAcqAgain use) := by
  unfold State.afterRxAcqAgain
  split
  · exact at_confined hs rfl
  · exact at_confined hs huse
  · exact at_confined hs rfl

theorem afterRxRead_confined (hs : s.lockSafe) {use : RxUse} (huse : use.streams = false) :
    s.Confined (s.afterRxRead use) := by
  unfold State.afterRxRead
  split
  · exact at_confined hs huse
  · exact at_confined hs rfl

theorem afterEmitAcq_confined (hs : s.lockSafe) (v : Byte) : s.Confined (s.afterEmitAcq v) := by
  unfold State.afterEmitAcq
  split <;> exact at_confined hs rfl

theorem afterResetExec_confined (hs : s.lockSafe) : s.Confined s.afterResetExec := by
  unfold State.afterResetExec
  split
  · exact at_confined hs rfl
  · exact .refl hs

/-- What follows a call outside the streams, while locked. -/
theorem mainResume_confined {p : MainPoint} (h : mainResume p s = .next t) (hp : p.streams = false) (hs : s.lockSafe)
    (hlocked : s.sess.unlocked = false) : s.Confined t := by
  cases p with
  | attach | sleep | flush => exact .of_next h (at_confined hs rfl)
  | top => exact .of_next h (afterActive_confined hs hlocked)
  | resetExec => exact .of_next h (afterResetExec_confined hs)
  | rxAcq use => exact .of_next h (afterRxAcq_confined hs hp)
  | rxAcqAgain use => exact .of_next h (afterRxAcqAgain_confined hs hp)
  | rxRead use => exact .of_next h (afterRxRead_confined hs hp)
  | rxTake use b =>
    obtain ⟨u, hbyte, rfl⟩ := andThen_next h
    have hu := useByte_confined hbyte hp hs hlocked
    cases hopen : u.sess.unlocked with
    | false => exact hu.trans (dispatchPoint_confined hu.safe hopen)
    | true => exact hu.trans (dispatchPoint_confined_of_unlocked hopen)
  | emitAcq v => exact .of_next h (afterEmitAcq_confined hs v)
  | emitPut v =>
    have hstep : s.Confined (s.setSess { s.sess with step := s.sess.step + 1 }) := ⟨hs, rfl, rfl, rfl⟩
    exact .of_next h (hstep.trans (dispatchPoint_confined hstep.safe hlocked))
  | burstAcq | burstPut v => cases hp

/-- No step of the dispatcher locks a session: only a device reset does. -/
theorem mainResume_keeps_unlocked {p : MainPoint} (h : mainResume p s = .next t) (hunlocked : s.sess.unlocked = true) :
    t.sess.unlocked = true := by
  rcases mainResume_next h with h | ⟨use, b, u, -, hbyte, h⟩
  · exact (unlocked_of_lasting h).trans hunlocked
  · exact (unlocked_of_lasting h).trans (useByte_keeps_unlocked hbyte hunlocked)

/-! ### A step while locked (R298, R324, R346, R348) -/

/-- What a step may do to the bus, the mode and the stored sequence of a locked session. -/
def State.LockHolds (s t : State) : Prop :=
  t.lockSafe ∧
    (s.sess.unlocked = false →
      t.busTrace = s.busTrace ∧
        ((t.sess.mode = s.sess.mode ∧ t.flashseq = s.flashseq) ∨
          (s.dev.pendingReset = true ∧ s.main.asleep = false ∧ t.dev.state = .detached ∧ t.main.point = .attach ∧
            t.sess.mode = 0x00#8)))

theorem State.Confined.lockHolds (h : s.Confined t) : s.LockHolds t :=
  ⟨h.safe, fun _ => ⟨h.busTrace, .inl ⟨h.mode, h.flashseq⟩⟩⟩

theorem lockHolds_of_unlocked (hs : s.sess.unlocked = true) (ht : t.lockSafe) : s.LockHolds t :=
  ⟨ht, fun hlocked => nomatch hlocked.symm.trans hs⟩

/-- A reset staged by the host; the watchdog is never enabled while locked. -/
theorem lockHolds_of_deviceReset (hs : s.lockSafe) (hcause : ResetCause i s) :
    s.LockHolds (s.deviceReset.setRet .none) := by
  refine ⟨fun _ => ⟨rfl, rfl, .inl rfl⟩, fun hlocked => ⟨rfl, .inr ?_⟩⟩
  rcases hcause with ⟨-, hawake, hstaged⟩ | ⟨-, hpoll⟩
  · exact ⟨hstaged, hawake, rfl, rfl, rfl⟩
  · exact absurd (hs hlocked).1 hpoll

theorem CollateralMove.confined (h : CollateralMove i s t) (hs : s.lockSafe) :
    (s.Confined t ∧ t.sess.unlocked = s.sess.unlocked) ∨
    (ResetCause i s ∧ t = s.deviceReset.setRet .none) := by
  have hsafe := h.lockSafe hs
  cases h with
  | kept h | busReset h =>
    simp only [State.collateral, Prod.mk.injEq] at h
    obtain ⟨hsess, hseq, hbus, -⟩ := h
    exact .inl ⟨⟨hsafe, hbus, (congrArg Sess.mode hsess).trans rfl, hseq⟩, (congrArg Sess.unlocked hsess).trans rfl⟩
  | deviceReset hcause ht => exact .inr ⟨hcause, ht⟩

theorem port_lockHolds (hi : i.ofPort) (h : exec i s = .next t) (hs : s.lockSafe) : s.LockHolds t := by
  rcases (port_collateralMove hi h).confined hs with ⟨h, -⟩ | ⟨hcause, rfl⟩
  · exact h.lockHolds
  · exact lockHolds_of_deviceReset hs hcause

/-- A turn that does not reset the device: its call is confined, and so is what follows it while locked. -/
theorem mainResume_lockHolds {p : MainPoint} (hcall : s.Confined u) (hpoint : s.main.point = p)
    (hunlocked : u.sess.unlocked = s.sess.unlocked) (hs : s.lockSafe) (h : mainResume p u = .next t) :
    s.LockHolds t := by
  cases hlock : s.sess.unlocked with
  | true =>
    have ht := mainResume_keeps_unlocked h (hunlocked.trans hlock)
    exact lockHolds_of_unlocked hlock fun hlocked => nomatch hlocked.symm.trans ht
  | false =>
    have hp : p.streams = false := hpoint ▸ (hs hlock).2.1
    exact (hcall.trans (mainResume_confined h hp hcall.safe (hunlocked.trans hlock))).lockHolds

/-- The one call of the main loop that resets the device (R298, R321). -/
theorem point_of_resetCause {p : MainPoint} (h : ResetCause (mainCall p) s) : p = .resetExec := by
  cases p with
  | resetExec => rfl
  | _ => rcases h with ⟨h, -⟩ | ⟨h, -⟩ <;> cases h

theorem mainLoopStep_lockHolds (h : mainLoopStep s = .next t) (hs : s.lockSafe) : s.LockHolds t := by
  rcases mainLoopStep_next h with ⟨-, rfl⟩ | ⟨-, -, p, hpoll, rfl⟩ | ⟨hawake, -, u, hcall, hresume⟩
  · exact State.Confined.lockHolds ⟨hs, rfl, rfl, rfl⟩
  · cases hlock : s.sess.unlocked with
    | false => cases hpoll.symm.trans (hs hlock).1
    | true =>
      have ht := (unlocked_of_lasting (s.pollIteration_lasting p)).trans hlock
      exact lockHolds_of_unlocked hlock fun hlocked => nomatch hlocked.symm.trans ht
  · rcases (port_collateralMove (mainCall_ofPort _) hcall).confined hs with ⟨hu, hunlocked⟩ | ⟨hcause, rfl⟩
    · exact mainResume_lockHolds hu rfl hunlocked hs hresume
    · have hpoint : s.main.point = .resetExec := point_of_resetCause hcause
      rw [hpoint] at hresume
      obtain rfl := Host.Outcome.next.inj hresume
      exact lockHolds_of_deviceReset hs hcause

end

/-- Settles O53: a step is a line of the port or a turn of the main loop, and the lock holds through both. -/
theorem lockedSessionNeverReachesTheBus : Obligations.LockedSessionNeverReachesTheBus := by
  intro s t hs h
  rcases step_next h with ⟨l, rest, i, -, hi, h⟩ | ⟨-, rest, h⟩
  · exact port_lockHolds (s := s.setPort rest) hi h hs
  · exact mainLoopStep_lockHolds (s := s.setPort rest) h hs

end Sys2Proof.Machine
end

section
/-! The firmware operations of the pipe and of the system, each case of each with its next state (42_bulk_pipe.md R270-R297):
first what the model's shared steps make of a slice, then one settled statement for each operation. -/

namespace Sys2Proof.Machine

open Sys2Proof.Statements

/-! ### Asleep, and the words of group 0x1 -/

theorem whenAwake_of_asleep {s : State} (h : s.main.asleep = true) (r : Result) :
    whenAwake s r = .next { s with ret := .held } :=
  if_pos h

/-- Settles O22: the sleep is tested before anything else. -/
theorem sleepHoldsEveryFirmwareOperation : Obligations.SleepHoldsEveryFirmwareOperation := by
  intro s h
  refine ⟨fun i hi => ?_, fun k => whenAwake_of_asleep h _, fun n => whenAwake_of_asleep h _,
    fun b => whenAwake_of_asleep h _⟩
  simp only [List.mem_cons, List.not_mem_nil, or_false] at hi
  rcases hi with rfl | rfl | rfl | rfl | rfl | rfl | rfl | rfl | rfl <;> exact whenAwake_of_asleep h _

/-- A word of group 0x1 is decoded by its kind and argument alone (R118, R121). -/
theorem decodeLine_firmware (p : Params) (kind : BitVec 4) (arg : Byte) :
    decodeLine p ⟨mkWord 1#4 kind arg, []⟩ = decodeFirmware kind arg [] := by
  simp [decodeLine]

/-! ### RX_READ and RX_TAKE (R273, R274) -/

section
variable {s : State} {x : RxSlice}

theorem execRxRead_of_slice (hslice : s.rx.slice = some x) {k : BitVec 6} (hawake : s.main.asleep = false) :
    exec (.rxRead k) s =
      if x.len ≤ k.toNat then .fault (.sliceRange k.toNat x.len)
      else if x.off + k.toNat < 64 then
        .next { s with ret := .byte (s.readBuf (.bulkOut x.half) (x.off + k.toNat)) }
      else .fault (.noSuchByte (.bulkOut x.half) (x.off + k.toNat)) := by
  refine (whenAwake_of_awake hawake _).trans ?_
  rw [hslice]
  rfl

theorem exec_rxRead_of_mem (hawake : s.main.asleep = false) (hslice : s.rx.slice = some x) {k : BitVec 6}
    (hk : k.toNat < x.len) (hhalf : x.off + x.len ≤ 64) :
    exec (.rxRead k) s = .next { s with ret := .byte (s.readBuf (.bulkOut x.half) (x.off + k.toNat)) } := by
  rw [execRxRead_of_slice hslice hawake, if_neg (Nat.not_le.mpr hk), if_pos (by omega)]

/-- Settles O24. -/
theorem rxReadReadsWithoutConsuming : Obligations.RxReadReadsWithoutConsuming := by
  intro s k hawake
  refine ⟨fun hnone => ?_, fun x hslice hpast => ?_, fun x hslice hk hhalf => ?_⟩
  · refine (whenAwake_of_awake hawake _).trans ?_
    rw [hnone]
  · rw [execRxRead_of_slice hslice hawake, if_pos hpast]
  · exact exec_rxRead_of_mem hawake hslice hk hhalf

/-- Settles O25. -/
theorem rxTakeShortensTheSlice : Obligations.RxTakeShortensTheSlice := by
  intro s n hawake
  refine ⟨fun hn => ?_, fun hnone => ?_, fun x hslice hpast => ?_, fun x hslice hn => ?_⟩
  · exact (decodeLine_firmware s.cfg 3#4 n).trans (if_pos hn)
  · refine (whenAwake_of_awake hawake _).trans ?_
    rw [hnone]
  · refine (whenAwake_of_awake hawake _).trans ?_
    rw [hslice]
    exact if_pos hpast
  · refine (whenAwake_of_awake hawake _).trans ?_
    rw [hslice]
    exact if_neg (Nat.not_lt.mpr hn)

/-! ### ACQ_RX (R271, R272, R275) -/

/-- What a re-armed half leaves: its descriptor armed, its flag busy, the other half next, and no slice (R271, R272). -/
def State.rxRearmed (s : State) (h : Bit) : State :=
  { s with
    bd := s.bd.put (.bulkOut h) (armedBd 64#10 h)
    rx := { s.rx with busy := s.rx.busy.put h true, next := !h, slice := none } }

theorem State.rxRecycle_of_none (h : s.rx.slice = none) : s.rxRecycle = s := by
  rw [State.rxRecycle, h]

theorem State.rxRecycle_of_unread (h : s.rx.slice = some x) (hlen : x.len ≠ 0) : s.rxRecycle = s := by
  rw [State.rxRecycle, h]
  exact if_neg hlen

theorem State.rxRecycle_of_exhausted (h : s.rx.slice = some x) (hlen : x.len = 0) (hnext : x.half = s.rx.next) :
    s.rxRecycle = s.rxRearmed x.half := by
  rw [State.rxRecycle, h]
  refine (if_pos hlen).trans ?_
  rw [hnext]
  rfl

theorem State.rxAcquire_of_slice (h : s.rx.slice = some x) : s.rxAcquire = s := by
  rw [State.rxAcquire, h]

theorem State.rxAcquire_of_busy (h : s.rx.slice = none) (hbusy : s.rx.busy.get s.rx.next = true) : s.rxAcquire = s := by
  rw [State.rxAcquire, h]
  exact if_pos hbusy

theorem State.rxAcquire_of_free (h : s.rx.slice = none) (hfree : s.rx.busy.get s.rx.next = false) :
    s.rxAcquire =
      { s with rx := { s.rx with
          slice := some { half := s.rx.next, off := 0, len := (s.desc (.bulkOut s.rx.next)).count.toNat } } } := by
  rw [State.rxAcquire, h]
  exact if_neg (Bool.eq_false_iff.mp hfree)

theorem exec_acqRx (hawake : s.main.asleep = false) (harmed : s.pipeArmed = true) :
    exec .acqRx s = .next { s.rxRecycle.rxAcquire with ret := s.rxRecycle.rxAcquire.rxAcquired } :=
  (whenAwake_of_awake hawake _).trans (if_pos harmed)

theorem exec_acqRx_disarmed (hawake : s.main.asleep = false) (hdisarmed : s.pipeArmed = false) :
    exec .acqRx s = .next { s with ret := .acquired false 0 } :=
  (whenAwake_of_awake hawake _).trans (if_neg (Bool.eq_false_iff.mp hdisarmed))

end

/-- Settles O23: an exhausted slice is recycled, and then the half `rx.next` is exposed or not. -/
theorem acqRxExposesHalvesInTurn : Obligations.AcqRxExposesHalvesInTurn := by
  intro s hawake
  refine ⟨exec_acqRx_disarmed hawake, fun x harmed hslice hlen => ?_, fun harmed hslice hbusy => ?_,
    fun harmed hslice hfree => ?_, fun x harmed hslice hlen hnext hbusy => ?_, fun x harmed hslice hlen hnext hfree => ?_⟩
  · rw [exec_acqRx hawake harmed, State.rxRecycle_of_unread hslice hlen, State.rxAcquire_of_slice hslice,
      State.rxAcquired, hslice]
  · rw [exec_acqRx hawake harmed, State.rxRecycle_of_none hslice, State.rxAcquire_of_busy hslice hbusy,
      State.rxAcquired, hslice]
  · rw [exec_acqRx hawake harmed, State.rxRecycle_of_none hslice, State.rxAcquire_of_free hslice hfree]
    rfl
  · have hother : (s.rxRearmed x.half).rx.busy.get (!x.half) = true := (Busy.get_put_other _ _ _).trans hbusy
    rw [exec_acqRx hawake harmed, State.rxRecycle_of_exhausted hslice hlen hnext, State.rxAcquire_of_busy rfl hother]
    rfl
  · have hother : (s.rxRearmed x.half).rx.busy.get (!x.half) = false := (Busy.get_put_other _ _ _).trans hfree
    have hdesc : (s.rxRearmed x.half).desc (.bulkOut (!x.half)) = s.desc (.bulkOut (!x.half)) :=
      BdTable.get_put_ne _ _ (by simp)
    rw [exec_acqRx hawake harmed, State.rxRecycle_of_exhausted hslice hlen hnext, State.rxAcquire_of_free rfl hother,
      ← hdesc]
    rfl

/-! ### TX_PUT (R278) -/

theorem exec_txPut_of_room {s : State} {x : TxSlice} (hawake : s.main.asleep = false) (hslice : s.tx.slice = some x)
    (hrem : x.rem ≠ 0) (hfill : x.fill < 64) (b : Byte) :
    exec (.txPut b) s =
      .next { s with
        buf := (s.writeBuf (.bulkIn x.half) x.fill b).buf
        tx := { s.tx with slice := some { half := x.half, fill := x.fill + 1, rem := x.rem - 1 } }
        ret := .none } := by
  refine (whenAwake_of_awake hawake _).trans ?_
  rw [hslice]
  exact (if_neg hrem).trans (if_pos hfill)

/-- Settles O27: a slice with room is shorter than its half, and one byte of BUF is written. -/
theorem txPutWritesOneByte : Obligations.TxPutWritesOneByte := by
  intro s b hawake
  refine ⟨decodeLine_firmware s.cfg 5#4 b, fun hnone => ?_, fun x hslice hrem => ?_, fun x hslice hrem hfull => ?_⟩
  · refine (whenAwake_of_awake hawake _).trans ?_
    rw [hnone]
  · refine (whenAwake_of_awake hawake _).trans ?_
    rw [hslice]
    exact if_pos hrem
  · have hfill : x.fill < 64 := by omega
    refine ⟨_, exec_txPut_of_room hawake hslice hrem hfill b, rfl, fun d i hi => ?_⟩
    show (s.writeBuf (.bulkIn x.half) x.fill b).readBuf d i = _
    split
    · rename_i hplace
      rw [hplace.1, hplace.2, State.readBuf_writeBuf_same]
    · rename_i hplace
      exact State.readBuf_writeBuf_ne s b (DescId.base_add_ne hi hfill hplace)

/-! ### ACQ_TX and FLUSH (R276, R277, R280, R281) -/

section
variable {s : State} {x : TxSlice}

theorem State.txTryAcquire_of_slice (h : s.tx.slice = some x) : s.txTryAcquire = s := by
  rw [State.txTryAcquire, h]

theorem State.txTryAcquire_of_busy (h : s.tx.slice = none) (hbusy : s.tx.busy.get s.tx.next = true) :
    s.txTryAcquire = s := by
  rw [State.txTryAcquire, h]
  exact if_pos hbusy

theorem State.txTryAcquire_of_free (h : s.tx.slice = none) (hfree : s.tx.busy.get s.tx.next = false) :
    s.txTryAcquire = { s with tx := { s.tx with slice := some { half := s.tx.next, fill := 0, rem := 64 } } } := by
  rw [State.txTryAcquire, h]
  exact if_neg (Bool.eq_false_iff.mp hfree)

/-- Arming a half and trying the other one is the record of the statements (R280, R277). -/
theorem State.txArm_txTryAcquire (s : State) (h : Bit) (n : Nat) :
    (s.txArm h n).txTryAcquire = txArmed s h n s.ret := by
  cases hbusy : (s.tx.busy.put h true).get (!s.tx.next) with
  | true =>
    rw [State.txTryAcquire_of_busy rfl hbusy, txArmed, if_pos hbusy]
    rfl
  | false =>
    rw [State.txTryAcquire_of_free rfl hbusy, txArmed, if_neg (Bool.eq_false_iff.mp hbusy)]
    rfl

theorem State.flushSlice_of_kept (hfill : x.fill = 0) (hzlp : s.tx.zlpOwed = false) : s.flushSlice x = (true, s) :=
  if_pos ⟨hfill, hzlp⟩

theorem State.flushSlice_of_armed (h : x.fill ≠ 0 ∨ s.tx.zlpOwed = true) :
    s.flushSlice x = (decide (x.fill ≠ 64), txArmed s x.half x.fill s.ret) := by
  have hsent : ¬ (x.fill = 0 ∧ s.tx.zlpOwed = false) := by
    rcases h with h | h <;> simp [h]
  refine (if_neg hsent).trans ?_
  rw [State.txArm_txTryAcquire, decide_not]
  rfl

theorem State.flushBody_of_slice (h : s.tx.slice = some x) : s.flushBody = s.flushSlice x := by
  rw [State.flushBody, h]

theorem State.flushBody_of_nothingOwed (h : s.tx.slice = none) (hzlp : s.tx.zlpOwed = false) :
    s.flushBody = (true, s) := by
  rw [State.flushBody, h]
  exact if_neg (Bool.eq_false_iff.mp hzlp)

theorem State.flushBody_of_busy (h : s.tx.slice = none) (hzlp : s.tx.zlpOwed = true)
    (hbusy : s.tx.busy.get s.tx.next = true) : s.flushBody = (false, s) := by
  rw [State.flushBody, h]
  refine (if_pos hzlp).trans ?_
  rw [State.txTryAcquire_of_busy h hbusy, h]

/-- The owed packet is armed in a half taken for it (R281). -/
theorem State.flushBody_of_owed (h : s.tx.slice = none) (hzlp : s.tx.zlpOwed = true)
    (hfree : s.tx.busy.get s.tx.next = false) : s.flushBody = (true, txArmed s s.tx.next 0 s.ret) := by
  rw [State.flushBody, h]
  refine (if_pos hzlp).trans ?_
  rw [State.txTryAcquire_of_free h hfree]
  exact State.flushSlice_of_armed (.inr hzlp)

theorem State.txRecycle_of_none (h : s.tx.slice = none) : s.txRecycle = s := by
  rw [State.txRecycle, h]

theorem State.txRecycle_of_room (h : s.tx.slice = some x) (hrem : x.rem ≠ 0) : s.txRecycle = s := by
  rw [State.txRecycle, h]
  exact if_neg hrem

theorem State.txRecycle_of_full (h : s.tx.slice = some x) (hrem : x.rem = 0) (hfill : x.fill ≠ 0) :
    s.txRecycle = txArmed s x.half x.fill s.ret := by
  rw [State.txRecycle, h]
  refine (if_pos hrem).trans ?_
  rw [State.flushBody_of_slice h, State.flushSlice_of_armed (.inl hfill)]

theorem exec_acqTx (hawake : s.main.asleep = false) (harmed : s.pipeArmed = true) :
    exec .acqTx s = .next { s.txRecycle.txTryAcquire with ret := s.txRecycle.txTryAcquire.txAcquired } :=
  (whenAwake_of_awake hawake _).trans (if_pos harmed)

theorem exec_acqTx_disarmed (hawake : s.main.asleep = false) (hdisarmed : s.pipeArmed = false) :
    exec .acqTx s = .next { s with ret := .acquired false 0 } :=
  (whenAwake_of_awake hawake _).trans (if_neg (Bool.eq_false_iff.mp hdisarmed))

theorem exec_flush (hawake : s.main.asleep = false) (harmed : s.pipeArmed = true) :
    exec .flush s = .next { s.flushBody.2 with ret := .flag s.flushBody.1 } :=
  (whenAwake_of_awake hawake _).trans (if_pos harmed)

theorem exec_flush_disarmed (hawake : s.main.asleep = false) (hdisarmed : s.pipeArmed = false) :
    exec .flush s = .next { s with ret := .flag false } :=
  (whenAwake_of_awake hawake _).trans (if_neg (Bool.eq_false_iff.mp hdisarmed))

/-- What ACQ_TX answers once it has armed the half `tx.next`: whether the other one is free (R276, R277). -/
theorem txArmed_acquired (h : x.half = s.tx.next) (n : Nat) :
    (txArmed s x.half n s.ret).txTryAcquire = txArmed s x.half n s.ret ∧
      (txArmed s x.half n s.ret).txAcquired =
        if s.tx.busy.get (!x.half) then .acquired false 0 else .acquired true 64 := by
  have hother : (s.tx.busy.put x.half true).get (!s.tx.next) = s.tx.busy.get (!x.half) := by rw [← h, Busy.get_put_other]
  cases hbusy : s.tx.busy.get (!x.half) with
  | true =>
    have hnone : (txArmed s x.half n s.ret).tx.slice = none := if_pos (hother.trans hbusy)
    refine ⟨State.txTryAcquire_of_busy hnone (hother.trans hbusy), ?_⟩
    rw [State.txAcquired, hnone]
    rfl
  | false =>
    have hsome : (txArmed s x.half n s.ret).tx.slice = some { half := !s.tx.next, fill := 0, rem := 64 } :=
      if_neg (Bool.eq_false_iff.mp (hother.trans hbusy))
    refine ⟨State.txTryAcquire_of_slice hsome, ?_⟩
    rw [State.txAcquired, hsome]
    rfl

end

/-- Settles O26: a full slice is armed and the other half tried; otherwise only a missing slice is acquired. -/
theorem acqTxAcquiresHalvesInTurn : Obligations.AcqTxAcquiresHalvesInTurn := by
  intro s hawake
  refine ⟨exec_acqTx_disarmed hawake, fun x harmed hslice hrem => ?_, fun harmed hslice hbusy => ?_,
    fun harmed hslice hfree => ?_, fun x harmed hslice hrem hfill hnext => ?_⟩
  · rw [exec_acqTx hawake harmed, State.txRecycle_of_room hslice hrem, State.txTryAcquire_of_slice hslice,
      State.txAcquired, hslice]
  · rw [exec_acqTx hawake harmed, State.txRecycle_of_none hslice, State.txTryAcquire_of_busy hslice hbusy,
      State.txAcquired, hslice]
  · rw [exec_acqTx hawake harmed, State.txRecycle_of_none hslice, State.txTryAcquire_of_free hslice hfree]
    rfl
  · obtain ⟨hkept, hanswer⟩ := txArmed_acquired hnext 64
    rw [exec_acqTx hawake harmed, State.txRecycle_of_full hslice hrem (by omega), hfill, hkept, hanswer]
    rfl

/-- Settles O28. -/
theorem flushArmsTheSliceOrTheOwedPacket : Obligations.FlushArmsTheSliceOrTheOwedPacket := by
  intro s hawake
  refine ⟨exec_flush_disarmed hawake, fun harmed hslice hzlp => ?_, fun harmed hslice hzlp hbusy => ?_,
    fun harmed hslice hzlp hfree => ?_, fun x harmed hslice hfill hzlp => ?_, fun x harmed hslice hsent => ?_⟩
  · rw [exec_flush hawake harmed, State.flushBody_of_nothingOwed hslice hzlp]
  · rw [exec_flush hawake harmed, State.flushBody_of_busy hslice hzlp hbusy]
  · rw [exec_flush hawake harmed, State.flushBody_of_owed hslice hzlp hfree]
    rfl
  · rw [exec_flush hawake harmed, State.flushBody_of_slice hslice, State.flushSlice_of_kept hfill hzlp]
  · rw [exec_flush hawake harmed, State.flushBody_of_slice hslice, State.flushSlice_of_armed hsent]
    rfl

/-! ### IS_ACTIVE and the critical sections (R293-R295) -/

theorem exec_isActive_flags {s : State} (hawake : s.main.asleep = false) :
    exec .isActive s = .next { s with ret := .flag s.active } :=
  whenAwake_of_awake hawake _

/-- Settles O29. -/
theorem isActiveAnswersTheFourFlags : Obligations.IsActiveAnswersTheFourFlags :=
  fun _ hawake => ⟨rfl, exec_isActive_flags hawake⟩

theorem exec_csEnter {s : State} (hawake : s.main.asleep = false) :
    exec .csEnter s =
      .next { s with irq := { s.irq with csStack := s.irq.enable :: s.irq.csStack, enable := false }, ret := .none } :=
  whenAwake_of_awake hawake _

theorem exec_csExit {s : State} (hawake : s.main.asleep = false) {saved : Bool} {rest : List Bool}
    (hstack : s.irq.csStack = saved :: rest) :
    exec .csExit s = .next { s with irq := { s.irq with csStack := rest, enable := saved }, ret := .none } := by
  refine (whenAwake_of_awake hawake _).trans ?_
  rw [hstack]
  rfl

/-- Settles O30: what CS_ENTER has saved is what CS_EXIT takes back. -/
theorem criticalSectionsSaveAndRestore : Obligations.CriticalSectionsSaveAndRestore := by
  intro s hawake
  refine ⟨exec_csEnter hawake, fun hempty => ?_, fun saved rest hstack => exec_csExit hawake hstack, fun t ht => ?_⟩
  · refine (whenAwake_of_awake hawake _).trans ?_
    rw [hempty]
  · obtain rfl := Host.Outcome.next.inj ((exec_csEnter hawake).symm.trans ht)
    exact exec_csExit (s := { s with
      irq := { s.irq with csStack := s.irq.enable :: s.irq.csStack, enable := false }, ret := .none }) hawake rfl

end Sys2Proof.Machine
end

section
/-! Each place of the main loop's program: its firmware call and what follows it (43_command_protocol.md R320-R329; log 1, 3,
13). -/

namespace Sys2Proof.Machine

open Sys2Proof.Statements

/-- The calls of the model and of the statements are the same. -/
theorem callAt_eq_mainCall (p : MainPoint) : callAt p = mainCall p := by
  cases p <;> rfl

/-! ### Calls that always answer a next state -/

section
variable {s : State}

theorem exec_attach_next (hawake : s.main.asleep = false) : ∃ t, exec .attach s = .next t := by
  by_cases hdetached : s.dev.state = .detached
  · exact ⟨_, (whenAwake_of_awake hawake _).trans (if_pos hdetached)⟩
  · exact ⟨_, (whenAwake_of_awake hawake _).trans (if_neg hdetached)⟩

theorem exec_acqRx_next (hawake : s.main.asleep = false) : ∃ t, exec .acqRx s = .next t := by
  cases harmed : s.pipeArmed with
  | true => exact ⟨_, exec_acqRx hawake harmed⟩
  | false => exact ⟨_, exec_acqRx_disarmed hawake harmed⟩

theorem exec_acqTx_next (hawake : s.main.asleep = false) : ∃ t, exec .acqTx s = .next t := by
  cases harmed : s.pipeArmed with
  | true => exact ⟨_, exec_acqTx hawake harmed⟩
  | false => exact ⟨_, exec_acqTx_disarmed hawake harmed⟩

theorem exec_flush_next (hawake : s.main.asleep = false) : ∃ t, exec .flush s = .next t := by
  cases harmed : s.pipeArmed with
  | true => exact ⟨_, exec_flush hawake harmed⟩
  | false => exact ⟨_, exec_flush_disarmed hawake harmed⟩

theorem exec_resetExec_staged (hawake : s.main.asleep = false) (hstaged : s.dev.pendingReset = true) :
    exec .resetExec s = .next (s.deviceReset.setRet .none) := by
  refine (whenAwake_of_awake hawake _).trans ?_
  rw [if_pos hstaged]
  rfl

theorem exec_resetExec_unstaged (hawake : s.main.asleep = false) (hnone : s.dev.pendingReset = false) :
    exec .resetExec s = .next { s with ret := .none } := by
  refine (whenAwake_of_awake hawake _).trans ?_
  rw [if_neg (Bool.eq_false_iff.mp hnone)]
  rfl

end

/-! ### What follows a call, in the terms of the statements (R321, R323, R328) -/

section
variable {s : State}

theorem State.active_iff :
    s.active = true ↔
      s.dev.configured = true ∧ s.dev.suspended = false ∧ s.dev.lineState = true ∧ s.dev.pendingReset = false := by
  simp [State.active, and_assoc]

theorem State.afterActive_of_flag (hret : s.ret = .flag true) : s.afterActive = dispatched s :=
  (if_pos hret).trans s.dispatchPoint_eq_dispatched

theorem State.afterActive_of_inactive (hret : s.ret = .flag false) :
    s.afterActive =
      goesTo { s with sess := ended s.sess }
        (if s.dev.pendingReset = true then .resetExec else if s.dev.suspended = true then .sleep else .top) := by
  unfold State.afterActive
  rw [if_neg (by rw [hret]; nofun)]
  split
  · rfl
  · split <;> rfl

theorem State.afterRxAcq_eq (s : State) (use : RxUse) :
    s.afterRxAcq use = goesTo s (afterAcqRx s.ret (.rxAcqAgain use) use) := by
  unfold State.afterRxAcq afterAcqRx
  cases s.ret with
  | acquired exposed len => cases exposed with
    | false => rfl
    | true => cases len <;> rfl
  | _ => rfl

theorem State.afterRxAcqAgain_eq (s : State) (use : RxUse) :
    s.afterRxAcqAgain use = goesTo s (afterAcqRx s.ret .flush use) := by
  unfold State.afterRxAcqAgain afterAcqRx
  cases s.ret with
  | acquired exposed len => cases exposed with
    | false => rfl
    | true => cases len <;> rfl
  | _ => rfl

theorem State.afterEmitAcq_eq (s : State) (v : Byte) : s.afterEmitAcq v = goesTo s (afterAcqTx s.ret v) := by
  unfold State.afterEmitAcq afterAcqTx
  cases s.ret with
  | acquired hasRoom len => cases hasRoom <;> rfl
  | _ => rfl

end

/-! ### The places -/

section
variable {s t : State} {rest : List Turn}

/-- A turn whose call faults is that fault. -/
theorem step_of_call_fault {f : Fault} (hport : s.port = .mainLoop :: rest ∨ (s.port = [] ∧ rest = []))
    (hawake : s.main.asleep = false) (hpoll : s.main.point ≠ .top ∨ s.sess.poll = none)
    (hcall : exec (mainCall s.main.point) { s with port := rest } = .fault f) : step s = .fault f := by
  rw [step_of_mainLoop_turn hport]
  unfold mainLoopStep
  rw [if_neg (Bool.eq_false_iff.mp hawake)]
  split
  · rename_i hpoint hsome
    rcases hpoll with hnot | hnone
    · exact absurd hpoint hnot
    · cases hsome.symm.trans hnone
  · rw [hcall]

theorem step_asleep (hport : s.port = .mainLoop :: rest ∨ (s.port = [] ∧ rest = [])) (hasleep : s.main.asleep = true) :
    step s = .next { s with port := rest, ret := .held } :=
  (step_of_mainLoop_turn hport).trans (if_pos hasleep)

/-- The head of the loop outside a flash poll (R321). -/
theorem step_top (hport : s.port = .mainLoop :: rest ∨ (s.port = [] ∧ rest = [])) (hawake : s.main.asleep = false)
    (hpoint : s.main.point = .top) (hpoll : s.sess.poll = none) :
    step s = .next
      (if s.dev.configured = true ∧ s.dev.suspended = false ∧ s.dev.lineState = true ∧ s.dev.pendingReset = false then
        dispatched { s with port := rest, ret := .flag true }
      else
        goesTo { s with port := rest, sess := ended s.sess, ret := .flag false }
          (if s.dev.pendingReset = true then .resetExec else if s.dev.suspended = true then .sleep else .top)) := by
  have hcall : exec .isActive { s with port := rest } = .next { s with port := rest, ret := .flag s.active } :=
    exec_isActive_flags (s := { s with port := rest }) hawake
  rw [step_of_call hport hawake hpoint (.inr hpoll) hcall, mainResume]
  by_cases hactive : s.active = true
  · rw [if_pos (State.active_iff.mp hactive), hactive]
    exact congrArg Host.Outcome.next (State.afterActive_of_flag rfl)
  · rw [if_neg (mt State.active_iff.mpr hactive), Bool.eq_false_iff.mpr hactive]
    exact congrArg Host.Outcome.next (State.afterActive_of_inactive rfl)

theorem step_resetExec_staged (hport : s.port = .mainLoop :: rest ∨ (s.port = [] ∧ rest = []))
    (hawake : s.main.asleep = false) (hpoint : s.main.point = .resetExec) (hstaged : s.dev.pendingReset = true) :
    ∃ t, exec .resetExec { s with port := rest } = .next t ∧ step s = .next t ∧
      t.main = { asleep := false, point := .attach } := by
  have hcall := exec_resetExec_staged (s := { s with port := rest }) hawake hstaged
  exact ⟨_, hcall, step_of_call hport hawake hpoint (.inl nofun) hcall, rfl⟩

theorem step_resetExec_unstaged (hport : s.port = .mainLoop :: rest ∨ (s.port = [] ∧ rest = []))
    (hawake : s.main.asleep = false) (hpoint : s.main.point = .resetExec) (hnone : s.dev.pendingReset = false) :
    step s = .next (goesTo { s with port := rest, ret := .none } .top) := by
  have hcall := exec_resetExec_unstaged (s := { s with port := rest }) hawake hnone
  rw [step_of_call hport hawake hpoint (.inl nofun) hcall]
  exact congrArg Host.Outcome.next (if_pos hpoint)

/-- The byte of RX_READ(0) waits for its RX_TAKE (R323). -/
theorem step_rxRead {use : RxUse} {x : RxSlice} (hport : s.port = .mainLoop :: rest ∨ (s.port = [] ∧ rest = []))
    (hawake : s.main.asleep = false) (hpoint : s.main.point = .rxRead use) (hslice : s.rx.slice = some x)
    (hlen : 1 ≤ x.len) (hhalf : x.off + x.len ≤ 64) :
    step s = .next (goesTo { s with port := rest, ret := .byte (s.readBuf (.bulkOut x.half) x.off) }
      (.rxTake use (s.readBuf (.bulkOut x.half) x.off))) := by
  have hcall := exec_rxRead_of_mem (s := { s with port := rest }) (k := 0#6) hawake hslice hlen hhalf
  rw [step_of_call hport hawake hpoint (.inl nofun) hcall]
  rfl

/-- An id byte that begins nothing: no command, or a locked one (R324, R346). -/
theorem startCommandByte_of_discarded {b : Byte}
    (h : headerLen (commandId b) = none ∨ (lockRequired (commandId b) = true ∧ s.sess.unlocked = false)) :
    startCommandByte b s = .next s := by
  unfold startCommandByte
  split
  · rfl
  · rename_i hknown
    rcases h with hnone | ⟨hrequired, hlocked⟩
    · cases hknown.symm.trans hnone
    · rw [hrequired, hlocked]
      rfl

/-- An id byte that opens a header (R324, R325). -/
theorem startCommandByte_of_header {b : Byte} {n : Nat} (hlen : headerLen (commandId b) = some n) (hn : n ≠ 0)
    (hlock : lockRequired (commandId b) = false ∨ s.sess.unlocked = true) :
    startCommandByte b s =
      .next { s with sess := { s.sess with cmd := b, hdrFill := 0, hdrNeed := n, phase := .header } } := by
  have hpasses : ¬ (lockRequired (commandId b) && !s.sess.unlocked) = true := by
    rcases hlock with h | h <;> simp [h]
  rw [startCommandByte, hlen]
  exact (if_neg hpasses).trans (if_neg hn)

theorem headerByte_of_more {b : Byte} (hmore : s.sess.hdrFill + 1 ≠ s.sess.hdrNeed) :
    headerByte b s =
      .next { s with sess := { s.sess with hdr := s.sess.hdr.set s.sess.hdrFill b, hdrFill := s.sess.hdrFill + 1 } } :=
  if_neg hmore

end

/-- Settles O9: each clause is its place's call, by `step_of_call`, and what follows it. -/
theorem mainLoopIssuesOneCallPerStep : Obligations.MainLoopIssuesOneCallPerStep := by
  intro s rest hport
  refine ⟨step_asleep hport, fun hawake => ?_⟩
  have hturn {p : MainPoint} {t : State} (hpoint : s.main.point = p) (hp : p ≠ .top)
      (hcall : exec (mainCall p) { s with port := rest } = .next t) : step s = mainResume p t :=
    step_of_call hport hawake hpoint (.inl hp) hcall
  refine ⟨fun f hpoll hcall => ?_, fun hpoint => ?_, step_top hport hawake, step_resetExec_staged hport hawake,
    step_resetExec_unstaged hport hawake, fun hpoint => ?_, fun u hpoint => ?_, fun u hpoint => ?_,
    fun u x hpoint hslice hlen hhalf => step_rxRead hport hawake hpoint hslice hlen hhalf,
    fun b x hpoint hslice hlen => ⟨fun hdiscarded => ?_, fun n hheader hn hlock => ?_⟩,
    fun b x hpoint hslice hlen hmore => ?_, fun v hpoint => ?_, fun v t hpoint hcall => ?_, fun hpoint => ?_⟩
  · exact step_of_call_fault hport hawake hpoll (callAt_eq_mainCall s.main.point ▸ hcall)
  · obtain ⟨t, hcall⟩ := exec_attach_next (s := { s with port := rest }) hawake
    exact ⟨t, hcall, hturn hpoint nofun hcall⟩
  · exact hturn hpoint nofun (exec_sleep (s := { s with port := rest }) hawake)
  · obtain ⟨t, hcall⟩ := exec_acqRx_next (s := { s with port := rest }) hawake
    exact ⟨t, hcall, (hturn hpoint nofun hcall).trans (congrArg Host.Outcome.next (t.afterRxAcq_eq u))⟩
  · obtain ⟨t, hcall⟩ := exec_acqRx_next (s := { s with port := rest }) hawake
    exact ⟨t, hcall, (hturn hpoint nofun hcall).trans (congrArg Host.Outcome.next (t.afterRxAcqAgain_eq u))⟩
  · exact step_of_takenByte hport hawake hslice hlen hpoint (startCommandByte_of_discarded hdiscarded)
  · exact step_of_takenByte hport hawake hslice hlen hpoint (startCommandByte_of_header hheader hn hlock)
  · exact step_of_takenByte hport hawake hslice hlen hpoint (headerByte_of_more hmore)
  · obtain ⟨t, hcall⟩ := exec_acqTx_next (s := { s with port := rest }) hawake
    exact ⟨t, hcall, (hturn hpoint nofun hcall).trans (congrArg Host.Outcome.next (t.afterEmitAcq_eq v))⟩
  · rw [hturn hpoint nofun hcall, mainResume, State.dispatchPoint_eq_dispatched]
    rfl
  · obtain ⟨t, hcall⟩ := exec_flush_next (s := { s with port := rest }) hawake
    exact ⟨t, hcall, hturn hpoint nofun hcall⟩

end Sys2Proof.Machine
end

section
/-! Where the pipe is linked its completions are the expected ones (42_bulk_pipe.md R290, R291; 60_exceptions.md R382). -/

namespace Sys2Proof.Machine

/-- No fault of a bulk completion: only an IN completion of endpoint 0 may be unexpected (R382). -/
structure Fault.SparesBulk (f : Fault) : Prop where
  parity : ∀ d r e, f ≠ .parityDesync d r e
  armed : ∀ d h, f ≠ .completionUnarmed d h
  expected : ∀ e, f = .unexpectedCompletion e → e.kind = .inp ∧ e.ep = .ep0

theorem Fault.sparesBulk_of_byCaller {f : Fault} (h : f.byCaller = true) : f.SparesBulk := by
  cases f with
  | noSlice | sliceRange | csUnbalanced => exact ⟨nofun, nofun, nofun⟩
  | _ => cases h

/-! ### The oldest bulk completion of a linked pipe -/

/-- The oldest queued half is `eng`, and it is busy (R53). -/
theorem DirLinked.head {busy : Busy} {eng ppbi h : Bit} {reset : Bool} {own : Bit → Owner} {q : List Bit}
    (hl : DirLinked busy eng ppbi reset own (h :: q)) : h = eng ∧ busy.get eng = true := by
  have heng : h = eng := by
    rcases hl.queue with hq | hq | hq
    · cases hq
    · exact (List.cons.inj hq).1
    · exact (List.cons.inj hq).1
  subst heng
  exact ⟨rfl, (hl.half h).1.trans (by simp)⟩

section
variable {s : State} {f : Fault} {half : Bit} {rest : List Completion}

theorem bulkOutComplete_of_expected (harmed : s.pipeArmed = true) (heng : half = s.rx.eng)
    (hbusy : s.rx.busy.get s.rx.eng = true) :
    bulkOutComplete half s =
      returnFromInterrupt (s.setRx { s.rx with busy := s.rx.busy.put s.rx.eng false, eng := !s.rx.eng }) := by
  simp [bulkOutComplete, harmed, heng, hbusy]

theorem bulkInComplete_of_expected (harmed : s.pipeArmed = true) (heng : half = s.tx.eng)
    (hbusy : s.tx.busy.get s.tx.eng = true) :
    bulkInComplete half s =
      returnFromInterrupt (s.setTx { s.tx with busy := s.tx.busy.put s.tx.eng false, eng := !s.tx.eng }) := by
  simp [bulkInComplete, harmed, heng, hbusy]

/-- A disarmed pipe has no bulk completion queued (R287). -/
theorem armed_of_bulkQueue_cons {k : TrnKind} (hs : s.pipeLinked) (hk : k = .out ∨ k = .inp)
    (hqueue : s.bulkQueue k = half :: halvesOf k rest) : s.pipeArmed = true := by
  refine Bool.not_eq_false _ ▸ fun hdisarmed => ?_
  obtain ⟨-, -, hout, hinp, -⟩ := pipeLinked_disarmed hs hdisarmed
  rcases hk with rfl | rfl
  · cases hqueue.symm.trans hout
  · cases hqueue.symm.trans hinp

theorem bulkOut_taken_ne_fault (hs : s.pipeLinked)
    (htrn : s.irq.trn = { kind := .out, ep := .bulk, half := half } :: rest) :
    bulkOutComplete half (s.setTrn rest) ≠ .fault f := by
  have hqueue : s.bulkQueue .out = half :: halvesOf .out rest := by
    rw [State.bulkQueue_eq, htrn, halvesOf_cons_bulk]
  have harmed := armed_of_bulkQueue_cons hs (.inl rfl) hqueue
  obtain ⟨-, ⟨-, -, hlinked⟩, -⟩ := pipeLinked_armed hs harmed
  have hl := (rxLinked_iff s).mp hlinked
  rw [hqueue] at hl
  obtain ⟨heng, hbusy⟩ := hl.head
  rw [bulkOutComplete_of_expected (s := s.setTrn rest) harmed heng hbusy]
  exact next_ne_fault

theorem bulkIn_taken_ne_fault (hs : s.pipeLinked)
    (htrn : s.irq.trn = { kind := .inp, ep := .bulk, half := half } :: rest) :
    bulkInComplete half (s.setTrn rest) ≠ .fault f := by
  have hqueue : s.bulkQueue .inp = half :: halvesOf .inp rest := by
    rw [State.bulkQueue_eq, htrn, halvesOf_cons_bulk]
  have harmed := armed_of_bulkQueue_cons hs (.inr rfl) hqueue
  obtain ⟨-, -, ⟨-, -, hlinked⟩⟩ := pipeLinked_armed hs harmed
  have hl := (txLinked_iff s).mp hlinked
  rw [hqueue] at hl
  obtain ⟨heng, hbusy⟩ := hl.head
  rw [bulkInComplete_of_expected (s := s.setTrn rest) harmed heng hbusy]
  exact next_ne_fault

/-! ### The interrupt step -/

theorem setupStage_sparesBulk (h : setupStage s = .fault f) : f.SparesBulk := by
  unfold setupStage at h
  split at h
  · obtain rfl := runRequest_fault h
    exact ⟨nofun, nofun, nofun⟩
  · cases h

/-- The one completion that endpoint 0 does not expect: an IN completion in an OUT data stage (R225). -/
theorem ep0InComplete_sparesBulk (h : ep0InComplete s = .fault f) : f.SparesBulk := by
  unfold ep0InComplete at h
  split at h
  · split at h <;> cases h
  · split at h
    · obtain rfl := Host.Outcome.fault.inj h
      exact ⟨nofun, nofun, fun e he => Fault.unexpectedCompletion.inj he ▸ ⟨rfl, rfl⟩⟩
    · cases h

theorem handleCompletion_sparesBulk {e : Completion} (hs : s.pipeLinked) (htrn : s.irq.trn = e :: rest)
    (h : handleCompletion e (s.setTrn rest) = .fault f) : f.SparesBulk := by
  obtain ⟨hnotif, hsetup⟩ := hs.2 e (htrn ▸ List.mem_cons_self)
  obtain ⟨kind, ep, half⟩ := e
  cases ep with
  | notif => exact absurd rfl hnotif
  | ep0 =>
    cases kind with
    | setup => exact setupStage_sparesBulk h
    | out => exact absurd h ep0OutComplete_ne_fault
    | inp => exact ep0InComplete_sparesBulk h
  | bulk =>
    cases kind with
    | setup => cases hsetup rfl
    | out => exact absurd h (bulkOut_taken_ne_fault hs htrn)
    | inp => exact absurd h (bulkIn_taken_ne_fault hs htrn)

theorem execIrq_sparesBulk (hs : s.pipeLinked) (h : execIrq s = .fault f) : f.SparesBulk := by
  unfold execIrq takeInterrupt at h
  split at h
  · split at h
    · rename_i src _
      cases src with
      | trn =>
        change handleTrn s = _ at h
        unfold handleTrn at h
        split at h
        · cases h
        · exact handleCompletion_sparesBulk hs (by assumption) h
      | _ => cases h
    · cases h
  · cases h

/-! ### The other operations: faults of the caller, and of the model -/

theorem execEvTrnIn_sparesBulk {ep : Endpoint} (h : execEvTrnIn ep half s = .fault f) : f.SparesBulk := by
  have hbyte {d : DescId} {t : State} (h : withinBuffer s d (returning .none t) = .fault f) : f.SparesBulk := by
    unfold withinBuffer at h
    split at h
    · cases h
    · obtain rfl := Host.Outcome.fault.inj h
      exact ⟨nofun, nofun, nofun⟩
  cases ep with
  | ep0 | bulk => exact hbyte (whenEnabled_fault h).2
  | notif => cases h

theorem execRxRead_sparesBulk {k : BitVec 6} (h : execRxRead k s = .fault f) : f.SparesBulk := by
  have h := whenAwake_fault h
  split at h
  · exact Fault.sparesBulk_of_byCaller (Host.Outcome.fault.inj h ▸ rfl)
  · split at h
    · exact Fault.sparesBulk_of_byCaller (Host.Outcome.fault.inj h ▸ rfl)
    · split at h
      · cases h
      · exact Host.Outcome.fault.inj h ▸ ⟨nofun, nofun, nofun⟩

theorem execRxTake_sparesBulk {n : Byte} (h : execRxTake n s = .fault f) : f.SparesBulk := by
  have h := whenAwake_fault h
  split at h
  · exact Fault.sparesBulk_of_byCaller (Host.Outcome.fault.inj h ▸ rfl)
  · split at h
    · exact Fault.sparesBulk_of_byCaller (Host.Outcome.fault.inj h ▸ rfl)
    · cases h

theorem execTxPut_sparesBulk {b : Byte} (h : execTxPut b s = .fault f) : f.SparesBulk := by
  have h := whenAwake_fault h
  split at h
  · exact Fault.sparesBulk_of_byCaller (Host.Outcome.fault.inj h ▸ rfl)
  · split at h
    · exact Fault.sparesBulk_of_byCaller (Host.Outcome.fault.inj h ▸ rfl)
    · split at h
      · cases h
      · exact Host.Outcome.fault.inj h ▸ ⟨nofun, nofun, nofun⟩

theorem execCsExit_sparesBulk (h : execCsExit s = .fault f) : f.SparesBulk := by
  have h := whenAwake_fault h
  split at h
  · exact Fault.sparesBulk_of_byCaller (Host.Outcome.fault.inj h ▸ rfl)
  · cases h

/-- No operation of the port faults on a bulk completion of a linked pipe. -/
theorem port_sparesBulk {i : Instr} (hi : i.ofPort) (hs : s.pipeLinked) (h : exec i s = .fault f) : f.SparesBulk := by
  cases i, hi using Instr.ofPort_elim with
  | irq => exact execIrq_sparesBulk hs h
  | evTrnIn ep half => exact execEvTrnIn_sparesBulk h
  | rxRead index => exact execRxRead_sparesBulk h
  | rxTake count => exact execRxTake_sparesBulk h
  | txPut byte => exact execTxPut_sparesBulk h
  | csExit => exact execCsExit_sparesBulk h
  | evTrnOut ep half data =>
    cases ep with
    | ep0 | bulk => cases (whenEnabled_fault h).2
    | notif => cases h
  | evSe0Exit | evBusReset | evIdle | evActivity | evError classes | evTrnSetup packet | watchdog =>
    cases (whenEnabled_fault h).2
  | attach | acqRx | acqTx | flush =>
    have h := whenAwake_fault h
    split at h <;> cases h
  | isActive | csEnter | sleep | resetExec => cases whenAwake_fault h

end

/-- Settles O52: where a step faults an operation of the port does, on a pipe linked as before. -/
theorem linkedPipeRaisesNoBulkFault : Obligations.LinkedPipeRaisesNoBulkFault := by
  intro s f hs h
  obtain ⟨i, u, hi, hu, h⟩ := step_fault h
  obtain ⟨hparity, harmed, hexpected⟩ := port_sparesBulk hi (pipeLinked_of_block (block_of_lasting hu) hs) h
  exact ⟨hparity, harmed, hexpected⟩

end Sys2Proof.Machine
end

section
/-! The owed zero-length packet (42_bulk_pipe.md R280-R282): which operations can settle it, and which clear it with the
pipe. -/

namespace Sys2Proof.Machine

open Sys2Proof.Statements

/-! ### How a debt can end -/

/-- The pipe as a clear or a set-up leaves it, but for the receive flags (R285-R287). -/
structure State.PipeFresh (t : State) : Prop where
  tx : t.tx = { busy := { even := false, odd := false }, next := false, eng := false, slice := none, zlpOwed := false }
  rxNext : t.rx.next = false
  rxEng : t.rx.eng = false
  rxSlice : t.rx.slice = none

/-- FLUSH has armed a half with a short packet (R280, R281). -/
def ArmsShortPacket (i : Instr) (s t : State) : Prop :=
  i = .flush ∧ ∃ h n, n < 64 ∧ t.bd = s.bd.put (.bulkIn h) (armedBd (BitVec.ofNat 10 n) h) ∧ t.tx.busy.get h = true

/-- The IRQ step takes the SETUP of a SET_CONFIGURATION from the queue (R172, R201). -/
def irqConfigures (s : State) : Prop :=
  irqTakes s .trn ∧ ∃ e rest q, s.irq.trn = e :: rest ∧ e.kind = .setup ∧
    decodeSetup s.cfg ((List.range 8).map fun k => s.readBuf .ep0Out k) = .ok (.setConfiguration q)

/-- The operations that clear the pipe or set it up again. -/
def RenewsPipe (i : Instr) (s : State) : Prop :=
  i ∈ [Instr.attach, .resetExec, .watchdog] ∨ (∃ q, i = .setConfiguration q) ∨
    (i = .irq ∧ (irqTakes s .reset ∨ irqConfigures s))

/-- What an operation may make of an owed packet: it stays owed, is settled by a short packet, or goes with the pipe. -/
inductive OwedMove (i : Instr) (s t : State) : Prop
  | kept (h : s.tx.zlpOwed = true → t.tx.zlpOwed = true)
  | sent (h : ArmsShortPacket i s t)
  | renewed (hi : RenewsPipe i s) (ht : t.PipeFresh)

section
variable {i : Instr} {s t u : State}

theorem OwedMove.of_tx (h : t.tx = s.tx) : OwedMove i s t := .kept fun howed => h ▸ howed

theorem OwedMove.of_frame {frame : State} (h : t = frame) (hframe : frame.tx = s.tx) : OwedMove i s t :=
  .of_tx (h ▸ hframe)

theorem OwedMove.of_next (h : (.next u : Result) = .next t) (hu : OwedMove i s u) : OwedMove i s t :=
  Host.Outcome.next.inj h ▸ hu

theorem OwedMove.of_whenEnabled {e : Bool} {r : Result} (h : whenEnabled e s r = .next t)
    (hr : r = .next t → OwedMove i s t) : OwedMove i s t := by
  rcases whenEnabled_next h with ⟨-, h⟩ | ⟨-, rfl⟩
  · exact hr h
  · exact .of_tx rfl

theorem OwedMove.of_whenAwake {r : Result} (h : whenAwake s r = .next t) (hr : r = .next t → OwedMove i s t) :
    OwedMove i s t := by
  rcases whenAwake_next h with ⟨-, h⟩ | ⟨-, rfl⟩
  · exact hr h
  · exact .of_tx rfl

/-! ### The engine's acts -/

theorem execEvTrnOut_owedMove {ep : Endpoint} {half : Bit} {data : List Byte}
    (h : execEvTrnOut ep half data s = .next t) : OwedMove i s t := by
  cases ep with
  | notif => exact .of_whenEnabled h fun h => .of_next h (.of_tx rfl)
  | ep0 | bulk => exact .of_whenEnabled h fun h => .of_next h (.of_tx (by simp))

theorem execEvTrnIn_owedMove {ep : Endpoint} {half : Bit} (h : execEvTrnIn ep half s = .next t) :
    OwedMove i s t := by
  cases ep with
  | notif => exact .of_whenEnabled h fun h => .of_next h (.of_tx rfl)
  | ep0 | bulk => exact .of_whenEnabled h fun h => .of_next (withinBuffer_next h) (.of_tx (by simp))

/-! ### Requests (R201-R221) -/

theorem State.startStage_tx_rx (s : State) (a : Answer) (w : Word) :
    (s.startStage a w).tx = s.tx ∧ (s.startStage a w).rx = s.rx := by
  cases a with
  | stall | noData => exact ⟨rfl, rfl⟩
  | dataIn kind src => simp [State.startStage]
  | dataOut dest => by_cases hw : w = 0#16 <;> simp [State.startStage, hw]

theorem tx_of_answerSetupWith {f : State → State} {a : Answer} {q : SetupFields} (h : answerSetupWith f a q s = .next t)
    (hf : (f s.beginSetup).tx = s.beginSetup.tx) : t.tx = s.tx := by
  obtain rfl := Host.Outcome.next.inj h
  exact (State.startStage_tx_rx _ _ _).1.trans (hf.trans s.beginSetup_tx)

theorem State.PipeFresh.startStage (h : s.PipeFresh) (a : Answer) (w : Word) :
    ((s.startStage a w).setRet .none).PipeFresh := by
  obtain ⟨htx, hrx⟩ := s.startStage_tx_rx a w
  refine ⟨htx.trans h.tx, ?_, ?_, ?_⟩
  · exact (congrArg Rx.next hrx).trans h.rxNext
  · exact (congrArg Rx.eng hrx).trans h.rxEng
  · exact (congrArg Rx.slice hrx).trans h.rxSlice

/-- SET_CONFIGURATION stalls, or sets the pipe up, or tears it down (R211, R285, R286). -/
theorem execSetConfiguration_tx {q : SetupFields} (h : execSetConfiguration q s = .next t) :
    t.tx = s.tx ∨ t.PipeFresh := by
  unfold execSetConfiguration at h
  split at h
  · split at h
    · cases h
    · obtain rfl := Host.Outcome.next.inj h
      exact .inr (State.PipeFresh.startStage ⟨rfl, rfl, rfl, rfl⟩ _ _)
  · split at h
    · cases h
    · obtain rfl := Host.Outcome.next.inj h
      exact .inr (State.PipeFresh.startStage ⟨rfl, rfl, rfl, rfl⟩ _ _)
  · exact .inl (tx_of_answerSetupWith (f := id) h rfl)

/-- Of the requests only SET_CONFIGURATION touches the transmit side. -/
theorem runRequest_tx (h : runRequest i s = .next t) :
    t.tx = s.tx ∨ ((∃ q, i = .setConfiguration q) ∧ t.PipeFresh) := by
  cases i with
  | setConfiguration q => exact (execSetConfiguration_tx h).imp_right fun hfresh => ⟨⟨q, rfl⟩, hfresh⟩
  | setControlLineState q =>
    change execSetControlLineState q s = .next t at h
    unfold execSetControlLineState at h
    split at h
    · exact .inl (tx_of_answerSetupWith h rfl)
    · exact .inl (tx_of_answerSetupWith (f := id) h rfl)
  | setAddress q =>
    change execSetAddress q s = .next t at h
    unfold execSetAddress at h
    exact .inl (tx_of_answerSetupWith h rfl)
  | vendorReset q =>
    change execVendorReset q s = .next t at h
    unfold execVendorReset at h
    exact .inl (tx_of_answerSetupWith h rfl)
  | getStatus q | getDescriptor q | getConfiguration q | getInterface q | setInterface q | sendEncapsulatedCommand q
  | getEncapsulatedResponse q | setLineCoding q | getLineCoding q | vendorIdentify q =>
    exact .inl (tx_of_answerSetupWith (f := id) h rfl)
  | _ => exact .inl (Host.Outcome.next.inj h ▸ rfl)

/-! ### The interrupt step -/

/-- The source that the interrupt's entry chooses is the one that the statements say IRQ takes (R384, R386). -/
theorem irqTakes_of_interruptSource {src : Source} (henable : s.irq.enable = true) (hdev : s.dev.state ≠ .detached)
    (h : s.interruptSource = some src) : irqTakes s src := by
  refine ⟨henable, hdev, (taken_iff s src).mpr (State.isTaken_of_interruptSource h), ?_⟩
  unfold State.interruptSource at h
  simp only [taken_iff]
  split at h
  · cases h
    trivial
  · rename_i hactivity
    split at h
    · cases h
      exact hactivity
    · rename_i hreset
      split at h
      · cases h
        exact ⟨hactivity, hreset⟩
      · rename_i hidle
        split at h
        · cases h
          exact ⟨hactivity, hreset, hidle⟩
        · rename_i herror
          split at h
          · cases h
            exact ⟨hactivity, hreset, hidle, herror⟩
          · cases h

theorem tx_of_onEp0 (h : OnEp0 s t) : t.tx = s.tx :=
  congrArg (fun v => v.2.2.1.1) (pipeView_of_onEp0 h).1

theorem setupStage_owedMove {e : Completion} {rest : List Completion} (htakes : irqTakes s .trn)
    (htrn : s.irq.trn = e :: rest) (he : e.kind = .setup) (h : setupStage (s.setTrn rest) = .next t) :
    OwedMove .irq s t := by
  unfold setupStage at h
  split at h
  · rename_i i hi
    rcases runRequest_tx h with htx | ⟨⟨q, rfl⟩, hfresh⟩
    · exact .of_tx htx
    · rw [State.setupPacket, State.readBufs_zero] at hi
      exact .renewed (.inr (.inr ⟨rfl, .inr ⟨htakes, e, rest, q, htrn, he, hi⟩⟩)) hfresh
  · exact .of_next h (.of_tx rfl)

theorem handleTrn_owedMove (htakes : irqTakes s .trn) (h : handleTrn s = .next t) : OwedMove .irq s t := by
  unfold handleTrn at h
  split at h
  · exact .of_next h (.of_tx rfl)
  · rename_i e rest htrn
    unfold handleCompletion at h
    split at h
    case h_1 hkind _ => exact setupStage_owedMove htakes htrn hkind h
    case h_2 => exact .of_tx ((tx_of_onEp0 (.of_ep0OutComplete h)).trans rfl)
    case h_3 => exact .of_tx ((tx_of_onEp0 (.of_ep0InComplete h)).trans rfl)
    case h_4 =>
      obtain ⟨-, -, -, rfl⟩ := bulkOutComplete_next h
      exact .of_tx rfl
    case h_5 =>
      obtain ⟨-, -, -, rfl⟩ := bulkInComplete_next h
      exact .kept id
    all_goals cases h

theorem State.usbResetInit_pipeFresh (s : State) : s.usbResetInit.PipeFresh := by
  rw [State.usbResetInit_eq]
  exact ⟨rfl, rfl, rfl, rfl⟩

theorem execIrq_owedMove (h : execIrq s = .next t) : OwedMove .irq s t := by
  rcases takeInterrupt_next h with ⟨henable, hdev, src, hsrc, h⟩ | rfl
  · have htakes := irqTakes_of_interruptSource henable hdev hsrc
    cases src with
    | trn => exact handleTrn_owedMove htakes h
    | reset =>
      obtain rfl := Host.Outcome.next.inj h
      obtain ⟨htx, hnext, heng, hslice⟩ := s.usbResetInit_pipeFresh
      exact .renewed (.inr (.inr ⟨rfl, .inl htakes⟩)) ⟨htx, hnext, heng, hslice⟩
    | idle | error => exact .of_next h (.of_tx rfl)
    | activity =>
      change handleActivity s = .next t at h
      unfold handleActivity at h
      dsimp only at h
      split at h <;> exact .of_next h (.of_tx rfl)
  · exact .of_tx rfl

/-! ### ACQ_TX and FLUSH (R276, R281) -/

theorem State.txTryAcquire_zlpOwed (s : State) : s.txTryAcquire.tx.zlpOwed = s.tx.zlpOwed := by
  rcases s.txTryAcquire_cases with h | ⟨-, -, h⟩ <;> rw [h]
  rfl

/-- ACQ_TX flushes only a full slice, whose packet of 64 bytes leaves one owed (R276, R280). -/
theorem State.txRecycle_zlpOwed (hfull : s.txSliceFull) (howed : s.tx.zlpOwed = true) :
    s.txRecycle.tx.zlpOwed = true := by
  cases hslice : s.tx.slice with
  | none => rwa [State.txRecycle_of_none hslice]
  | some x =>
    have hsum := hfull x hslice
    by_cases hrem : x.rem = 0
    · have hfill : x.fill = 64 := by omega
      rw [State.txRecycle_of_full hslice hrem (by omega), hfill]
      rfl
    · rwa [State.txRecycle_of_room hslice hrem]

theorem execAcqTx_owedMove (hfull : s.txSliceFull) (h : execAcqTx s = .next t) : OwedMove i s t := by
  refine .of_whenAwake h fun h => ?_
  split at h
  · refine .of_next h (.kept fun howed => ?_)
    exact (State.txTryAcquire_zlpOwed _).trans (State.txRecycle_zlpOwed hfull howed)
  · exact .of_next h (.of_tx rfl)

/-- What `flush_body()` returns (R281): true with nothing owed and nothing sent, false while a half is awaited, or whether the
packet it armed was short. -/
theorem State.flushBody_cases (s : State) :
    (s.flushBody = (true, s) ∧ s.tx.zlpOwed = false) ∨ s.flushBody = (false, s) ∨
    ∃ h n, s.flushBody = (decide (n ≠ 64), txArmed s h n s.ret) ∧ (n = 0 ∨ ∃ x ∈ s.tx.slice, n = x.fill) := by
  cases hslice : s.tx.slice with
  | some x =>
    rw [State.flushBody_of_slice hslice]
    by_cases hsent : x.fill ≠ 0 ∨ s.tx.zlpOwed = true
    · exact .inr (.inr ⟨_, _, State.flushSlice_of_armed hsent, .inr ⟨x, rfl, rfl⟩⟩)
    · simp only [not_or, not_not, Bool.not_eq_true] at hsent
      obtain ⟨hfill, hzlp⟩ := hsent
      exact .inl ⟨State.flushSlice_of_kept hfill hzlp, hzlp⟩
  | none =>
    cases hzlp : s.tx.zlpOwed with
    | false => exact .inl ⟨State.flushBody_of_nothingOwed hslice hzlp, rfl⟩
    | true =>
      cases hbusy : s.tx.busy.get s.tx.next with
      | true => exact .inr (.inl (State.flushBody_of_busy hslice hzlp hbusy))
      | false => exact .inr (.inr ⟨_, 0, State.flushBody_of_owed hslice hzlp hbusy, .inl rfl⟩)

/-- A packet of 64 bytes keeps one owed; a shorter one settles it (R280). -/
theorem execFlush_owedMove (hfull : s.txSliceFull) (h : execFlush s = .next t) : OwedMove .flush s t := by
  refine .of_whenAwake h fun h => ?_
  split at h
  · obtain rfl := Host.Outcome.next.inj h
    rcases s.flushBody_cases with ⟨hbody, -⟩ | hbody | ⟨half, n, hbody, hn⟩ <;> rw [hbody]
    · exact .of_tx rfl
    · exact .of_tx rfl
    · have hle : n ≤ 64 := by
        rcases hn with rfl | ⟨x, hx, rfl⟩
        · exact Nat.zero_le _
        · have hsum := hfull x hx
          omega
      rcases Nat.lt_or_eq_of_le hle with hshort | rfl
      · exact .sent ⟨rfl, half, n, hshort, rfl, Busy.get_put_same _ _ _⟩
      · exact .kept fun _ => rfl
  · exact .of_next h (.of_tx rfl)

/-- FLUSH answers true only with nothing owed (R281). -/
theorem execFlush_true (h : execFlush s = .next t) (hret : t.ret = .flag true) : t.tx.zlpOwed = false := by
  rcases whenAwake_next h with ⟨-, h⟩ | ⟨-, rfl⟩
  · split at h
    · obtain rfl := Host.Outcome.next.inj h
      rcases s.flushBody_cases with ⟨hbody, hzlp⟩ | hbody | ⟨half, n, hbody, -⟩ <;> rw [hbody] at hret ⊢
      · exact hzlp
      · cases hret
      · have hshort : decide (n ≠ 64) = true := Ret.flag.inj hret
        exact decide_eq_false (of_decide_eq_true hshort)
    · obtain rfl := Host.Outcome.next.inj h
      cases hret
  · cases hret

/-! ### Every operation -/

theorem State.deviceReset_pipeFresh (s : State) : (s.deviceReset.setRet .none).PipeFresh := ⟨rfl, rfl, rfl, rfl⟩

theorem port_owedMove (hi : i.ofPort) (hfull : s.txSliceFull) (h : exec i s = .next t) : OwedMove i s t := by
  cases i, hi using Instr.ofPort_elim with
  | evSe0Exit | evActivity => exact .of_whenEnabled h fun h => .of_next h (.of_tx rfl)
  | evBusReset | evIdle | evError classes =>
    exact .of_whenEnabled h fun h => .of_next h (.of_tx (State.noteActivity_tx _))
  | evTrnSetup packet => exact .of_whenEnabled h fun h => .of_next h (.of_tx (by simp))
  | evTrnOut ep half data => exact execEvTrnOut_owedMove h
  | evTrnIn ep half => exact execEvTrnIn_owedMove h
  | attach =>
    refine .of_whenAwake h fun h => ?_
    split at h
    · obtain rfl := Host.Outcome.next.inj h
      obtain ⟨htx, hnext, heng, hslice⟩ := s.usbResetInit_pipeFresh
      exact .renewed (.inl (by simp)) ⟨htx, hnext, heng, hslice⟩
    · exact .of_next h (.of_tx rfl)
  | acqRx => exact .of_frame (execAcqRx_frame h) rfl
  | rxRead index => exact .of_frame (execRxRead_frame h) rfl
  | rxTake count => exact .of_frame (execRxTake_frame h) rfl
  | acqTx => exact execAcqTx_owedMove hfull h
  | txPut byte =>
    refine .of_whenAwake h fun h => ?_
    split at h
    · cases h
    · split at h
      · cases h
      · split at h
        · exact .of_next h (.kept id)
        · cases h
  | flush => exact execFlush_owedMove hfull h
  | isActive | csEnter => exact .of_whenAwake h fun h => .of_next h (.of_tx rfl)
  | csExit => rcases execCsExit_next h with ⟨saved, rest, -, rfl⟩ | rfl <;> exact .of_tx rfl
  | sleep =>
    refine .of_whenAwake h fun h => .of_next h (.of_tx ?_)
    split <;> rfl
  | resetExec =>
    rcases execResetExec_next h with ⟨-, rfl⟩ | ⟨r, rfl⟩
    · exact .renewed (.inl (by simp)) s.deviceReset_pipeFresh
    · exact .of_tx rfl
  | irq => exact execIrq_owedMove h
  | watchdog =>
    rcases execWatchdog_next h with ⟨-, rfl⟩ | ⟨r, rfl⟩
    · exact .renewed (.inl (by simp)) s.deviceReset_pipeFresh
    · exact .of_tx rfl

theorem exec_owedMove (hfull : s.txSliceFull) (h : exec i s = .next t) : OwedMove i s t := by
  by_cases hreq : i.isRequest = true
  · rw [exec_request hreq] at h
    rcases runRequest_tx h with htx | ⟨hi, hfresh⟩
    · exact .of_tx htx
    · exact .renewed (.inr (.inl hi)) hfresh
  · by_cases hcmd : i.isCommand = true
    · exact .of_tx (congrArg Block.tx (block_of_command hcmd h))
    · exact port_owedMove ⟨Bool.eq_false_iff.mpr hreq, Bool.eq_false_iff.mpr hcmd⟩ hfull h

end

/-- Settles O58: a debt that is gone was settled by a short packet or went with the pipe. -/
theorem owedPacketIsNotForgotten : Obligations.OwedPacketIsNotForgotten := by
  intro i s t hfull h
  refine ⟨fun howed hsettled => ?_, fun hi hret => ?_⟩
  · cases exec_owedMove hfull h with
    | kept hkept => cases hsettled.symm.trans (hkept howed)
    | sent hsent => exact .inl hsent
    | renewed hi ht => exact .inr ⟨hi, ht.tx, ht.rxNext, ht.rxEng, ht.rxSlice⟩
  · subst hi
    exact execFlush_true h hret

end Sys2Proof.Machine
end

section
/-! The command protocol's commands one by one: what each does when it begins, and when it may not begin
(43_command_protocol.md R324, R326, R330-R346; log 19, 24). -/

namespace Sys2Proof.Machine

open Sys2Proof.Statements

/-! ### The output of a command (R326) -/

theorem State.setOut_of_ne_nil (s : State) {bytes : List Byte} (h : bytes ≠ []) :
    s.setOut bytes = { s with sess := { s.sess with out := bytes } } :=
  if_neg h

/-- A command without output ends at once (R326, R329; log 24). -/
theorem State.setOut_nil (s : State) : s.setOut [] = { s with sess := ended s.sess } := if_pos rfl

/-! ### Commands that begin -/

section
variable {s : State} {mods : BitVec 3}

theorem exec_ping_of_begins {data : List Byte} (hbegins : begins s 0x01#5) (hdata : data ≠ []) :
    exec (.ping mods data) s =
      .next { s with sess := { entered s mods 0x01#5 data with out := data }, ret := .none } := by
  refine (startCommand_of_begins hbegins mods data fun t => t.setOut data).trans ?_
  rw [State.setOut_of_ne_nil _ hdata]
  rfl

/-- The right key opens the session and is sent back (R331). -/
theorem exec_unlock_of_key {key : List Byte} (hbegins : begins s 0x02#5) (hkey : key = s.cfg.unlockKey)
    (hne : key ≠ []) :
    exec (.unlock mods key) s =
      .next { s with sess := { entered s mods 0x02#5 key with unlocked := true, out := key }, ret := .none } := by
  refine (execUnlock.eq_1 mods key s).trans ((startCommand_of_begins hbegins _ _ _).trans ?_)
  rw [if_pos hkey, State.setOut_of_ne_nil _ hne]
  rfl

/-- A wrong key ends the command and leaves the lock (R331). -/
theorem exec_unlock_of_wrongKey {key : List Byte} (hbegins : begins s 0x02#5) (hkey : key ≠ s.cfg.unlockKey) :
    exec (.unlock mods key) s = .next { s with sess := ended (entered s mods 0x02#5 key), ret := .none } := by
  refine (execUnlock.eq_1 mods key s).trans ((startCommand_of_begins hbegins _ _ _).trans ?_)
  rw [if_neg hkey]
  rfl

theorem exec_diagnostics_of_begins (hbegins : begins s 0x1D#5) :
    exec (.diagnostics mods) s =
      .next (({ s with sess := entered s mods 0x1D#5 [] }.setOut (Config.diagFormat s.diag)).setRet .none) :=
  startCommand_of_begins hbegins mods [] fun t => t.setOut (Config.diagFormat t.diag)

theorem exec_setFlashWriteSequence_of_fits {n : Byte} (hbegins : begins s 0x0A#5) (hn : n.toNat ≤ 16) :
    exec (.setFlashWriteSequence mods n) s =
      .next { s with
        flashseq := { s.flashseq with count := n.toNat }
        sess := { entered s mods 0x0A#5 [n] with count := BitVec.ofNat 16 (3 * n.toNat) }
        ret := .none } := by
  refine (execSetFlashWriteSequence.eq_1 mods n s).trans ((startCommand_of_begins hbegins _ _ _).trans ?_)
  rw [if_neg (Nat.not_lt.mpr hn)]
  rfl

/-- More than 16 records leave the stored sequence (R340). -/
theorem exec_setFlashWriteSequence_of_tooMany {n : Byte} (hbegins : begins s 0x0A#5) (hn : 16 < n.toNat) :
    exec (.setFlashWriteSequence mods n) s =
      .next { s with sess := ended (entered s mods 0x0A#5 [n]), ret := .none } := by
  refine (execSetFlashWriteSequence.eq_1 mods n s).trans ((startCommand_of_begins hbegins _ _ _).trans ?_)
  rw [if_pos hn]
  rfl

end

/-- Settles O39: each command's work is its output, which only an empty diagnostics record lacks. -/
theorem answeringCommandsSetTheirOutput : Obligations.AnsweringCommandsSetTheirOutput := by
  intro s mods
  refine ⟨fun data hlen hbegins => ?_, fun key hlen hkey hbegins => ?_, fun hbegins hformat => ?_,
    fun hbegins hformat => ?_, fun hbegins => ?_⟩
  · exact exec_ping_of_begins hbegins (List.ne_nil_of_length_eq_add_one hlen)
  · exact exec_unlock_of_key hbegins hkey (List.ne_nil_of_length_eq_add_one hlen)
  · rw [exec_diagnostics_of_begins hbegins, State.setOut_of_ne_nil _ hformat]
    rfl
  · rw [exec_diagnostics_of_begins hbegins, hformat, State.setOut_nil]
    rfl
  · exact startCommand_of_begins hbegins mods [] fun t => t.setOut (identBytes t.cfg)

/-- Settles O41: the start of R326 with the command's own work, which ends with `finish()`. -/
theorem silentCommandsActAndEnd : Obligations.SilentCommandsActAndEnd := by
  intro s mods
  refine ⟨fun addr data hbegins => ?_, fun m hbegins => ?_, fun magic hbegins => ?_, fun key hkey hbegins => ?_⟩
  · exact (execWrite.eq_1 mods addr data s).trans (startCommand_of_begins hbegins _ _ _)
  · exact (execSetMode.eq_1 mods m s).trans (startCommand_of_begins hbegins _ _ _)
  · exact (execReset.eq_1 mods magic s).trans (startCommand_of_begins hbegins _ _ _)
  · exact exec_unlock_of_wrongKey hbegins hkey

/-- Settles O42: the bursts share `setBurst`; SET_FLASH_WRITE_SEQUENCE alone tests its operand. -/
theorem streamingCommandsLoadTheirCounters : Obligations.StreamingCommandsLoadTheirCounters := by
  intro s mods addr len
  have hburst {id : BitVec 5} (hbegins : begins s id) :=
    startCommand_of_begins hbegins mods (addrBytes addr ++ addrBytes len) fun t => t.setBurst addr len
  refine ⟨hburst, hburst, hburst, fun pol hbegins => ?_, fun n hbegins hn => ?_, fun n hbegins hn => ?_⟩
  · exact (execPollFlashData.eq_1 mods addr pol s).trans (startCommand_of_begins hbegins _ _ _)
  · exact exec_setFlashWriteSequence_of_fits hbegins hn
  · exact exec_setFlashWriteSequence_of_tooMany hbegins hn

/-! ### Commands that do not begin (R324, R346; log 19) -/

section
variable {s : State}

theorem startCommand_of_locked {id : BitVec 5} (hphase : s.sess.phase = .awaitId) (hlocked : s.sess.unlocked = false)
    (hid : lockRequired id = true) (mods : BitVec 3) (header : List Byte) (f : State → State) :
    startCommand id mods header f s = .next { s with ret := .none } := by
  unfold startCommand
  rw [hphase, hid, hlocked]
  rfl

theorem startCommand_of_running (hphase : s.sess.phase = .exec) (id : BitVec 5) (mods : BitVec 3) (header : List Byte)
    (f : State → State) : startCommand id mods header f s = .next { s with ret := .notEnabled } := by
  unfold startCommand
  rw [hphase]
  rfl

theorem exec_command_of_running {i : Instr} (hi : i.isCommand = true) (hphase : s.sess.phase = .exec) :
    exec i s = .next { s with ret := .notEnabled } := by
  obtain ⟨id, mods, header, f, hstart, -, -⟩ := exec_command hi
  exact (hstart s).trans (startCommand_of_running hphase id mods header f)

end

/-- Settles O43: the ids are those of R128's lock column, and a running command lets none begin. -/
theorem lockedCommandsAreDiscarded : Obligations.LockedCommandsAreDiscarded := by
  intro s mods addr len b k
  refine ⟨fun hphase hlocked => ?_, fun hphase i hi => ?_⟩
  · have hdiscarded {i : Instr} {id : BitVec 5} {header : List Byte} {f : State → State}
        (hstart : exec i s = startCommand id mods header f s) (hid : lockRequired id = true) :
        exec i s = .next { s with ret := .none } :=
      hstart.trans (startCommand_of_locked hphase hlocked hid mods header f)
    simp only [List.forall_mem_cons]
    exact ⟨hdiscarded (execSetMode.eq_1 ..) rfl, hdiscarded (execGetMode.eq_1 ..) rfl,
      hdiscarded (execRead.eq_1 ..) rfl, hdiscarded (execReadBurst.eq_1 ..) rfl, hdiscarded (execWrite.eq_1 ..) rfl,
      hdiscarded (execWriteBurst.eq_1 ..) rfl, hdiscarded (execPollFlashData.eq_1 ..) rfl,
      hdiscarded (execSetFlashWriteSequence.eq_1 ..) rfl, hdiscarded (execFlashBurst.eq_1 ..) rfl,
      hdiscarded (execReset.eq_1 ..) rfl, nofun⟩
  · exact exec_command_of_running (List.all_eq_true.mp rfl i hi) hphase

end Sys2Proof.Machine
end

section
/-! The main-loop step that takes a command's last byte (43_command_protocol.md R322-R326; log 1, 13): the RX_TAKE of the
byte, the command it completes, and the dispatcher up to its next call. -/

namespace Sys2Proof.Machine

open Sys2Proof.Statements

section
variable {s : State} {b : Byte} {i : Instr}

/-! ### The command that a byte completes -/

theorem beginCommand_of_decoded {bytes : List Byte} (hdecode : decodeCommand bytes = .ok i) :
    beginCommand bytes s = exec i s := by
  rw [beginCommand, hdecode]

/-- The last header byte begins the command (R325, R326). -/
theorem headerByte_of_last {n : Nat} (hlast : s.sess.hdrFill + 1 = s.sess.hdrNeed)
    (hlen : headerLen (commandId s.sess.cmd) = some n) :
    headerByte b s = beginCommand (s.sess.cmd :: (s.sess.hdr.set s.sess.hdrFill b).take n)
      { s with sess := { s.sess with hdr := s.sess.hdr.set s.sess.hdrFill b, hdrFill := s.sess.hdrFill + 1 } } := by
  refine (if_pos hlast).trans ?_
  dsimp only [State.setSess]
  rw [hlen]
  rfl

/-- The id byte of a command without a header begins it (R324). -/
theorem startCommandByte_of_noHeader (hlen : headerLen (commandId b) = some 0)
    (hlock : lockRequired (commandId b) = false ∨ s.sess.unlocked = true) :
    startCommandByte b s = beginCommand [b] s := by
  have hpasses : ¬ (lockRequired (commandId b) && !s.sess.unlocked) = true := by
    rcases hlock with h | h <;> simp [h]
  rw [startCommandByte, hlen]
  exact (if_neg hpasses).trans (if_pos rfl)

/-! ### The step -/

/-- The RX_TAKE of a byte whose use may itself be a whole operation. -/
theorem step_of_rxTake {rest : List Turn} {use : RxUse} {x : RxSlice}
    (hport : s.port = .mainLoop :: rest ∨ (s.port = [] ∧ rest = [])) (hawake : s.main.asleep = false)
    (hslice : s.rx.slice = some x) (hlen : 1 ≤ x.len) (hpoint : s.main.point = .rxTake use b) :
    step s = andThen (useByte use b (tookByte s x rest)) dispatched := by
  have htake : exec (.rxTake 1#8) { s with port := rest } = .next (tookByte s x rest) :=
    exec_rxTake_one (s := { s with port := rest }) hawake hslice hlen
  rw [step_of_call hport hawake hpoint (.inl nofun) htake, mainResume, funext State.dispatchPoint_eq_dispatched]

end

/-- Settles O8: the byte completes the command, and a decoded command is executed. -/
theorem mainLoopRunsTheDecodedCommand : Obligations.MainLoopRunsTheDecodedCommand := by
  intro s b rest x i n hport hawake hslice hlen
  refine ⟨fun hpoint hlast hheader hdecode => ?_, fun hpoint hheader hlock hdecode => ?_⟩
  · rw [step_of_rxTake (.inl hport) hawake hslice hlen hpoint, useByte,
      headerByte_of_last (s := tookByte s x rest) hlast hheader]
    exact congrArg (andThen · dispatched) (beginCommand_of_decoded hdecode)
  · rw [step_of_rxTake (.inl hport) hawake hslice hlen hpoint, useByte,
      startCommandByte_of_noHeader (s := tookByte s x rest) hheader hlock]
    exact congrArg (andThen · dispatched) (beginCommand_of_decoded hdecode)

end Sys2Proof.Machine
end

section
/-! A sleep inside a critical section (70_reset_and_hazards.md R435). What can end a sleep is the ACTIVITY handler or a device
reset; asleep, no firmware operation runs, so the first needs the interrupt enabled and the second a flash poll, and neither
can come back. -/

namespace Sys2Proof.Machine

/-- Asleep with the interrupt disabled and no flash poll in progress (R435). -/
structure State.Unwakeable (s : State) : Prop where
  asleep : s.main.asleep = true
  disabled : s.irq.enable = false
  noPoll : s.sess.poll = none

section
variable {i : Instr} {s t : State}

theorem eq_held_of_whenAwake {r : Result} (h : whenAwake s r = .next t) (hasleep : s.main.asleep = true) :
    t = s.setRet .held :=
  (Host.Outcome.next.inj ((whenAwake_of_asleep hasleep r).symm.trans h)).symm

theorem asleep_of_power (h : t.power = s.power) : t.main.asleep = s.main.asleep :=
  congrArg (fun p => p.2.2.2.2) h

/-- The sleep outlasts every operation of the port but an enabled IRQ and the watchdog of a flash poll (R296, R297, R347). -/
theorem port_asleep (hi : i.ofPort) (h : exec i s = .next t) (hasleep : s.main.asleep = true) :
    t.main.asleep = true ∨ (i = .irq ∧ s.irq.enable = true) ∨ (i = .watchdog ∧ s.sess.poll ≠ none) := by
  have hpower (hp : t.power = s.power) : t.main.asleep = true := (asleep_of_power hp).trans hasleep
  cases i, hi using Instr.ofPort_elim with
  | evSe0Exit =>
    rcases whenEnabled_next h with ⟨-, h⟩ | ⟨-, rfl⟩
    · obtain rfl := Host.Outcome.next.inj h
      exact .inl hasleep
    · exact .inl hasleep
  | evActivity => exact .inl (hpower (power_of_whenEnabled h fun _ h => power_of_returning h rfl))
  | evBusReset | evIdle | evError =>
    exact .inl (hpower (power_of_whenEnabled h fun _ h => power_of_returning h (State.noteActivity_power _)))
  | evTrnSetup => exact .inl (hpower (power_of_evTrnSetup h))
  | evTrnOut => exact .inl (hpower (power_of_evTrnOut h))
  | evTrnIn => exact .inl (hpower (power_of_evTrnIn h))
  | attach | acqRx | rxRead | rxTake | acqTx | txPut | flush | isActive | csEnter | csExit | sleep | resetExec =>
    obtain rfl := eq_held_of_whenAwake h hasleep
    exact .inl hasleep
  | irq =>
    rcases takeInterrupt_next h with ⟨henable, -⟩ | rfl
    · exact .inr (.inl ⟨rfl, henable⟩)
    · exact .inl hasleep
  | watchdog =>
    rcases execWatchdog_next h with ⟨hpoll, -⟩ | ⟨r, rfl⟩
    · exact .inr (.inr ⟨rfl, hpoll⟩)
    · exact .inl hasleep

/-- Asleep, no operation enables the interrupt: CS_EXIT and ATTACH are held, and a device reset disables it (R295, R297). -/
theorem exec_keeps_disabled (h : exec i s = .next t) (hasleep : s.main.asleep = true) (hdisabled : s.irq.enable = false) :
    t.irq.enable = false := by
  have hheld {r : Result} (h : whenAwake s r = .next t) : t.irq.enable = false := by
    obtain rfl := eq_held_of_whenAwake h hasleep
    exact hdisabled
  rcases (exec_guardedMove h).enable with hsame | hwriter
  · exact hsame.trans hdisabled
  · simp only [List.mem_cons, List.not_mem_nil, or_false] at hwriter
    rcases hwriter with rfl | rfl | rfl | rfl | rfl
    · exact hheld h
    · exact hheld h
    · exact hheld h
    · exact hheld h
    · rcases execWatchdog_next h with ⟨-, rfl⟩ | ⟨r, rfl⟩
      · rfl
      · exact hdisabled

/-- Only a command begins a flash poll (R338, R341). -/
theorem CollateralMove.noPoll (h : CollateralMove i s t) (hnone : s.sess.poll = none) : t.sess.poll = none := by
  cases h with
  | kept h => exact (congrArg (fun c => c.1.poll) h).trans hnone
  | busReset h => exact congrArg (fun c => c.1.poll) h
  | deviceReset _ ht => exact ht ▸ rfl

theorem port_keeps_unwakeable (hi : i.ofPort) (h : exec i s = .next t) (hs : s.Unwakeable) : t.Unwakeable := by
  obtain ⟨hasleep, hdisabled, hnone⟩ := hs
  refine ⟨?_, exec_keeps_disabled h hasleep hdisabled, (port_collateralMove hi h).noPoll hnone⟩
  rcases port_asleep hi h hasleep with hstays | ⟨-, henable⟩ | ⟨-, hpoll⟩
  · exact hstays
  · cases henable.symm.trans hdisabled
  · exact absurd hnone hpoll

/-- A turn of the main loop is held; a line of the port is one of the operations above. -/
theorem step_keeps_unwakeable (h : step s = .next t) (hs : s.Unwakeable) : t.Unwakeable := by
  rcases step_next h with ⟨l, rest, i, -, hi, h⟩ | ⟨-, rest, h⟩
  · exact port_keeps_unwakeable hi h ⟨hs.asleep, hs.disabled, hs.noPoll⟩
  · rcases mainLoopStep_next h with ⟨-, rfl⟩ | ⟨hawake, -⟩ | ⟨hawake, -⟩
    · exact ⟨hs.asleep, hs.disabled, hs.noPoll⟩
    · cases hs.asleep.symm.trans hawake
    · cases hs.asleep.symm.trans hawake

end

/-- Settles O57: neither the enable nor a poll, the two ways out of the sleep, can appear while the main loop is held. -/
theorem sleepInsideASectionIsNeverWoken : Obligations.SleepInsideASectionIsNeverWoken := by
  intro s t hasleep hdisabled hnone h
  obtain ⟨hasleep', hdisabled', hnone'⟩ := step_keeps_unwakeable h ⟨hasleep, hdisabled, hnone⟩
  exact ⟨hasleep', hdisabled', hnone'⟩

end Sys2Proof.Machine
end
